-- ==== Sys2Proof/Word.lean ====
section
/-! DEFINITION. The word types of the block: a byte is 8 bits, a word 32 bits (00_scope.md R11). -/

namespace Sys2Proof

/-- A byte of a stream, a frame or a span (00_scope.md R11). -/
abbrev Byte := BitVec 8

/-- A register word (00_scope.md R11). -/
abbrev Word := BitVec 32

end Sys2Proof
end

