-- ==== Sys2Proof/Syntax.lean ====
section
/-! DEFINITION. The host's accesses and the instructions they encode: one constructor per row of
spec/opcode_table.json (30_encoding.md R80-R82). -/

namespace Sys2Proof

/-- A bus operation of the format BUS, `(dir, offset, data)` (30_encoding.md R81); a read carries no data. -/
inductive BusOp where
  | read (off : BitVec 12)
  | write (off : BitVec 12) (data : Word)
deriving DecidableEq, Repr

/-- The offset that selects the operation (30_encoding.md R81). -/
def BusOp.offset : BusOp → BitVec 12
  | .read off => off
  | .write off _ => off

/-- The direction of an access (30_encoding.md R81). -/
inductive Dir where
  | read
  | write
deriving DecidableEq, Repr

/-- One access as the host issues it, before the block looks at it: its direction, its size in bytes, the signed
distance of its address from `BASE`, and the data of a write (30_encoding.md R81, 20_memory.md R64; log entry 9). -/
structure Access where
  dir : Dir
  bytes : Nat
  off : Int
  data : Word
deriving DecidableEq, Repr

/-- What can reach the block: a host access, or hardware reset between accesses (44_bus_operations.md R229;
70_reset_and_hazards.md R290; log entry 3). -/
inductive HostEvent where
  | access (a : Access)
  | hwReset
deriving DecidableEq, Repr

/-- The host-protocol violations, accesses to which the spec gives no meaning (00_scope.md R19, 20_memory.md R64). -/
inductive Reject where
  /-- The access is not 32 bits wide (a sub-word access, or a burst). -/
  | notWordAccess
  /-- The address is outside the 4 KiB window. -/
  | outsideWindow
  /-- The offset is not a multiple of 4. -/
  | misaligned
deriving DecidableEq, Repr

/-- An encoded object that selects an instruction: a bus operation, or the data word of a write to CMD
(30_encoding.md R80-R82). -/
inductive Encoded where
  | bus (op : BusOp)
  | cmd (data : Word)
deriving DecidableEq, Repr

/-- The instructions: the commands of the format CMD, whose operand `ign` is the ignored field data[31:4]
(30_encoding.md R82, R86), and the operations of the format BUS, whose operand `data` is the word written
(30_encoding.md R81). -/
inductive Instr where
  | nop (ign : BitVec 28)
  | arm (ign : BitVec 28)
  | disarm (ign : BitVec 28)
  | flush (ign : BitVec 28)
  | ckInit (ign : BitVec 28)
  | ckCompute (ign : BitVec 28)
  | ckVerify (ign : BitVec 28)
  | reserved7 (ign : BitVec 28)
  | reserved8 (ign : BitVec 28)
  | reserved9 (ign : BitVec 28)
  | reservedA (ign : BitVec 28)
  | reservedB (ign : BitVec 28)
  | reservedC (ign : BitVec 28)
  | reservedD (ign : BitVec 28)
  | reservedE (ign : BitVec 28)
  | softReset (ign : BitVec 28)
  | rdId
  | rdVersion
  | rdHwcfg0
  | rdHwcfg1
  | rdStatus
  | rdErrInfo
  | rdIrqStatus
  | rdIrqEnable
  | rdFrameCfg
  | rdFixedLen
  | rdLenField
  | rdMaxLen
  | rdSyncWindow
  | rdHdrBytes0
  | rdHdrBytes1
  | rdCkCfg
  | rdCkRange
  | rdCkStoreAt
  | rdCrcPoly
  | rdCrcInit
  | rdCrcXorout
  | rdXsBounds0
  | rdXsStep0
  | rdXsRela0
  | rdXsRelb0
  | rdXsBounds1
  | rdXsStep1
  | rdXsRela1
  | rdXsRelb1
  | rdXsBounds2
  | rdXsStep2
  | rdXsRela2
  | rdXsRelb2
  | rdXsBounds3
  | rdXsStep3
  | rdXsRela3
  | rdXsRelb3
  | rdOutLevel
  | rdPendLevel
  | rdCntFrames
  | rdCntResync
  | rdCntDiscard
  | rdCntDropped
  | rdCkLevel
  | rdCkResult
  | rdCkStored
  | wrIrqEnable (data : Word)
  | wrFrameCfg (data : Word)
  | wrFixedLen (data : Word)
  | wrLenField (data : Word)
  | wrMaxLen (data : Word)
  | wrSyncWindow (data : Word)
  | wrHdrBytes0 (data : Word)
  | wrHdrBytes1 (data : Word)
  | wrCkCfg (data : Word)
  | wrCkRange (data : Word)
  | wrCkStoreAt (data : Word)
  | wrCrcPoly (data : Word)
  | wrCrcInit (data : Word)
  | wrCrcXorout (data : Word)
  | wrXsBounds0 (data : Word)
  | wrXsStep0 (data : Word)
  | wrXsRela0 (data : Word)
  | wrXsRelb0 (data : Word)
  | wrXsBounds1 (data : Word)
  | wrXsStep1 (data : Word)
  | wrXsRela1 (data : Word)
  | wrXsRelb1 (data : Word)
  | wrXsBounds2 (data : Word)
  | wrXsStep2 (data : Word)
  | wrXsRela2 (data : Word)
  | wrXsRelb2 (data : Word)
  | wrXsBounds3 (data : Word)
  | wrXsStep3 (data : Word)
  | wrXsRela3 (data : Word)
  | wrXsRelb3 (data : Word)
  | cmdWrite (data : Word)
  | data8 (data : Word)
  | data32 (data : Word)
  | outPop
  | ckData8 (data : Word)
  | ckData32 (data : Word)
  | irqW1c (data : Word)
  | reservedAccess (op : BusOp)
deriving DecidableEq, Repr

end Sys2Proof
end

