-- ==== Sys2Proof/WellFormed.lean ====
section
/-! DEFINITION. Which terms of `Instr` are instructions. Every operand but one is checked by its type; a
`reservedAccess` must be an operation that no other row of the opcode table matches. -/

namespace Sys2Proof

/-- The offsets at which a read has a row of its own: the readable registers and OUT_DATA (30_encoding.md R81,
10_state.md R20). -/
def readOffsets : List (BitVec 12) :=
  [0x000#12, 0x004#12, 0x008#12, 0x00C#12, 0x014#12, 0x018#12, 0x01C#12, 0x020#12, 0x030#12, 0x034#12, 0x038#12,
   0x03C#12, 0x040#12, 0x044#12, 0x048#12, 0x050#12, 0x054#12, 0x058#12, 0x05C#12, 0x060#12, 0x064#12, 0x080#12,
   0x084#12, 0x088#12, 0x08C#12, 0x090#12, 0x094#12, 0x098#12, 0x09C#12, 0x0A0#12, 0x0A4#12, 0x0A8#12, 0x0AC#12,
   0x0B0#12, 0x0B4#12, 0x0B8#12, 0x0BC#12, 0x114#12, 0x118#12, 0x120#12, 0x124#12, 0x128#12, 0x12C#12, 0x148#12,
   0x14C#12, 0x150#12, 0x110#12]

/-- The offsets at which a write has a row of its own: IRQ_ENABLE, the CL registers, CMD, the four data ports and
IRQ_STATUS (30_encoding.md R81, 10_state.md R20). -/
def writeOffsets : List (BitVec 12) :=
  [0x020#12, 0x030#12, 0x034#12, 0x038#12, 0x03C#12, 0x040#12, 0x044#12, 0x048#12, 0x050#12, 0x054#12, 0x058#12,
   0x05C#12, 0x060#12, 0x064#12, 0x080#12, 0x084#12, 0x088#12, 0x08C#12, 0x090#12, 0x094#12, 0x098#12, 0x09C#12,
   0x0A0#12, 0x0A4#12, 0x0A8#12, 0x0AC#12, 0x0B0#12, 0x0B4#12, 0x0B8#12, 0x0BC#12, 0x010#12, 0x100#12, 0x104#12,
   0x140#12, 0x144#12, 0x01C#12]

/-- Bits [1:0] of a bus operation's offset are 00 (30_encoding.md R81). -/
def BusOp.aligned (op : BusOp) : Bool := op.offset.extractLsb' 0 2 == 0#2

/-- No row of the table but RESERVED_ACCESS matches the operation (30_encoding.md R81). -/
def BusOp.unmatched : BusOp → Bool
  | .read off => !readOffsets.contains off
  | .write off _ => !writeOffsets.contains off

/-- The well-formed instructions. -/
def Instr.wellFormed : Instr → Bool
  | .reservedAccess op => op.aligned && op.unmatched
  | .nop _ => true
  | .arm _ => true
  | .disarm _ => true
  | .flush _ => true
  | .ckInit _ => true
  | .ckCompute _ => true
  | .ckVerify _ => true
  | .reserved7 _ => true
  | .reserved8 _ => true
  | .reserved9 _ => true
  | .reservedA _ => true
  | .reservedB _ => true
  | .reservedC _ => true
  | .reservedD _ => true
  | .reservedE _ => true
  | .softReset _ => true
  | .rdId => true
  | .rdVersion => true
  | .rdHwcfg0 => true
  | .rdHwcfg1 => true
  | .rdStatus => true
  | .rdErrInfo => true
  | .rdIrqStatus => true
  | .rdIrqEnable => true
  | .rdFrameCfg => true
  | .rdFixedLen => true
  | .rdLenField => true
  | .rdMaxLen => true
  | .rdSyncWindow => true
  | .rdHdrBytes0 => true
  | .rdHdrBytes1 => true
  | .rdCkCfg => true
  | .rdCkRange => true
  | .rdCkStoreAt => true
  | .rdCrcPoly => true
  | .rdCrcInit => true
  | .rdCrcXorout => true
  | .rdXsBounds0 => true
  | .rdXsStep0 => true
  | .rdXsRela0 => true
  | .rdXsRelb0 => true
  | .rdXsBounds1 => true
  | .rdXsStep1 => true
  | .rdXsRela1 => true
  | .rdXsRelb1 => true
  | .rdXsBounds2 => true
  | .rdXsStep2 => true
  | .rdXsRela2 => true
  | .rdXsRelb2 => true
  | .rdXsBounds3 => true
  | .rdXsStep3 => true
  | .rdXsRela3 => true
  | .rdXsRelb3 => true
  | .rdOutLevel => true
  | .rdPendLevel => true
  | .rdCntFrames => true
  | .rdCntResync => true
  | .rdCntDiscard => true
  | .rdCntDropped => true
  | .rdCkLevel => true
  | .rdCkResult => true
  | .rdCkStored => true
  | .wrIrqEnable _ => true
  | .wrFrameCfg _ => true
  | .wrFixedLen _ => true
  | .wrLenField _ => true
  | .wrMaxLen _ => true
  | .wrSyncWindow _ => true
  | .wrHdrBytes0 _ => true
  | .wrHdrBytes1 _ => true
  | .wrCkCfg _ => true
  | .wrCkRange _ => true
  | .wrCkStoreAt _ => true
  | .wrCrcPoly _ => true
  | .wrCrcInit _ => true
  | .wrCrcXorout _ => true
  | .wrXsBounds0 _ => true
  | .wrXsStep0 _ => true
  | .wrXsRela0 _ => true
  | .wrXsRelb0 _ => true
  | .wrXsBounds1 _ => true
  | .wrXsStep1 _ => true
  | .wrXsRela1 _ => true
  | .wrXsRelb1 _ => true
  | .wrXsBounds2 _ => true
  | .wrXsStep2 _ => true
  | .wrXsRela2 _ => true
  | .wrXsRelb2 _ => true
  | .wrXsBounds3 _ => true
  | .wrXsStep3 _ => true
  | .wrXsRela3 _ => true
  | .wrXsRelb3 _ => true
  | .cmdWrite _ => true
  | .data8 _ => true
  | .data32 _ => true
  | .outPop => true
  | .ckData8 _ => true
  | .ckData32 _ => true
  | .irqW1c _ => true

end Sys2Proof
end

