-- ==== Sys2Proof/Decode.lean ====
section
/-! DEFINITION. The decoders of the two formats (30_encoding.md R81, R82, R94), the acceptance of a host access
(20_memory.md R64), the encoder, and the words of spec/opcode_table.json. -/

namespace Sys2Proof

/-- The command a write of `data` to CMD selects: OPCODE is data[3:0], data[31:4] is ignored (30_encoding.md R82). -/
def decodeCmd (data : Word) : Instr :=
  let ign := data.extractLsb' 4 28
  match (data.extractLsb' 0 4).toNat with
  | 0x0 => .nop ign
  | 0x1 => .arm ign
  | 0x2 => .disarm ign
  | 0x3 => .flush ign
  | 0x4 => .ckInit ign
  | 0x5 => .ckCompute ign
  | 0x6 => .ckVerify ign
  | 0x7 => .reserved7 ign
  | 0x8 => .reserved8 ign
  | 0x9 => .reserved9 ign
  | 0xA => .reservedA ign
  | 0xB => .reservedB ign
  | 0xC => .reservedC ign
  | 0xD => .reservedD ign
  | 0xE => .reservedE ign
  | _ => .softReset ign

/-- The rows of the format BUS with direction R (30_encoding.md R81, spec/opcode_table.json). -/
def readRows : List (BitVec 12 × Instr) :=
  [(0x000#12, .rdId), (0x004#12, .rdVersion), (0x008#12, .rdHwcfg0), (0x00C#12, .rdHwcfg1), (0x014#12, .rdStatus),
   (0x018#12, .rdErrInfo), (0x01C#12, .rdIrqStatus), (0x020#12, .rdIrqEnable), (0x030#12, .rdFrameCfg),
   (0x034#12, .rdFixedLen), (0x038#12, .rdLenField), (0x03C#12, .rdMaxLen), (0x040#12, .rdSyncWindow),
   (0x044#12, .rdHdrBytes0), (0x048#12, .rdHdrBytes1), (0x050#12, .rdCkCfg), (0x054#12, .rdCkRange),
   (0x058#12, .rdCkStoreAt), (0x05C#12, .rdCrcPoly), (0x060#12, .rdCrcInit), (0x064#12, .rdCrcXorout),
   (0x080#12, .rdXsBounds0), (0x084#12, .rdXsStep0), (0x088#12, .rdXsRela0), (0x08C#12, .rdXsRelb0),
   (0x090#12, .rdXsBounds1), (0x094#12, .rdXsStep1), (0x098#12, .rdXsRela1), (0x09C#12, .rdXsRelb1),
   (0x0A0#12, .rdXsBounds2), (0x0A4#12, .rdXsStep2), (0x0A8#12, .rdXsRela2), (0x0AC#12, .rdXsRelb2),
   (0x0B0#12, .rdXsBounds3), (0x0B4#12, .rdXsStep3), (0x0B8#12, .rdXsRela3), (0x0BC#12, .rdXsRelb3),
   (0x114#12, .rdOutLevel), (0x118#12, .rdPendLevel), (0x120#12, .rdCntFrames), (0x124#12, .rdCntResync),
   (0x128#12, .rdCntDiscard), (0x12C#12, .rdCntDropped), (0x148#12, .rdCkLevel), (0x14C#12, .rdCkResult),
   (0x150#12, .rdCkStored), (0x110#12, .outPop)]

/-- The rows of the format BUS with direction W (30_encoding.md R81, spec/opcode_table.json). -/
def writeRows : List (BitVec 12 × (Word → Instr)) :=
  [(0x020#12, .wrIrqEnable), (0x030#12, .wrFrameCfg), (0x034#12, .wrFixedLen), (0x038#12, .wrLenField),
   (0x03C#12, .wrMaxLen), (0x040#12, .wrSyncWindow), (0x044#12, .wrHdrBytes0), (0x048#12, .wrHdrBytes1),
   (0x050#12, .wrCkCfg), (0x054#12, .wrCkRange), (0x058#12, .wrCkStoreAt), (0x05C#12, .wrCrcPoly),
   (0x060#12, .wrCrcInit), (0x064#12, .wrCrcXorout), (0x080#12, .wrXsBounds0), (0x084#12, .wrXsStep0),
   (0x088#12, .wrXsRela0), (0x08C#12, .wrXsRelb0), (0x090#12, .wrXsBounds1), (0x094#12, .wrXsStep1),
   (0x098#12, .wrXsRela1), (0x09C#12, .wrXsRelb1), (0x0A0#12, .wrXsBounds2), (0x0A4#12, .wrXsStep2),
   (0x0A8#12, .wrXsRela2), (0x0AC#12, .wrXsRelb2), (0x0B0#12, .wrXsBounds3), (0x0B4#12, .wrXsStep3),
   (0x0B8#12, .wrXsRela3), (0x0BC#12, .wrXsRelb3), (0x010#12, .cmdWrite), (0x100#12, .data8), (0x104#12, .data32),
   (0x140#12, .ckData8), (0x144#12, .ckData32), (0x01C#12, .irqW1c)]

/-- The bus operation's row, selected by direction and offset alone; what no other row matches is a RESERVED_ACCESS
(30_encoding.md R81, R94). -/
def decodeBus (op : BusOp) : Except Reject Instr :=
  if op.aligned then
    match op with
    | .read off => .ok ((readRows.lookup off).getD (.reservedAccess op))
    | .write off data =>
      match writeRows.lookup off with
      | some row => .ok (row data)
      | none => .ok (.reservedAccess op)
  else .error .misaligned

/-- The instruction of an encoded object (30_encoding.md R80). -/
def decode : Encoded → Except Reject Instr
  | .bus op => decodeBus op
  | .cmd data => .ok (decodeCmd data)

/-- The bus operation of a host access, if it is a 32-bit access at a 4-byte-aligned offset inside the window
(44_bus_operations.md R229, 20_memory.md R64; the order of the three checks is log entry 10). -/
def Access.toBusOp (a : Access) : Except Reject BusOp :=
  if a.bytes ≠ 4 then .error .notWordAccess
  else if a.off < 0 ∨ 0xFFF < a.off then .error .outsideWindow
  else if a.off.toNat % 4 ≠ 0 then .error .misaligned
  else match a.dir with
    | .read => .ok (.read (BitVec.ofNat 12 a.off.toNat))
    | .write => .ok (.write (BitVec.ofNat 12 a.off.toNat) a.data)

/-- The instruction a host access selects (44_bus_operations.md R229). -/
def decodeAccess (a : Access) : Except Reject Instr :=
  match a.toBusOp with
  | .ok op => decodeBus op
  | .error r => .error r

/-- The access that issues a bus operation: 32 bits wide, at the operation's offset. -/
def BusOp.toAccess : BusOp → Access
  | .read off => ⟨.read, 4, off.toNat, 0⟩
  | .write off data => ⟨.write, 4, off.toNat, data⟩

/-- The access at a bus address of a machine whose window begins at `base` (00_scope.md R9, R12: `MemRead` and
`MemWrite` at `BASE + addr`). -/
def Access.atBus (base : Nat) (dir : Dir) (bytes addr : Nat) (data : Word) : Access :=
  ⟨dir, bytes, (addr : Int) - base, data⟩

/-- A CMD data word: OPCODE in bits [3:0], the ignored bits above it (30_encoding.md R82). -/
def cmdWord (opcode : BitVec 4) (ign : BitVec 28) : Word := ign ++ opcode

/-- The encoding of an instruction: a command's data word, or a bus operation (30_encoding.md R81, R82). -/
def encode : Instr → Encoded
  | .nop ign => .cmd (cmdWord 0x0#4 ign)
  | .arm ign => .cmd (cmdWord 0x1#4 ign)
  | .disarm ign => .cmd (cmdWord 0x2#4 ign)
  | .flush ign => .cmd (cmdWord 0x3#4 ign)
  | .ckInit ign => .cmd (cmdWord 0x4#4 ign)
  | .ckCompute ign => .cmd (cmdWord 0x5#4 ign)
  | .ckVerify ign => .cmd (cmdWord 0x6#4 ign)
  | .reserved7 ign => .cmd (cmdWord 0x7#4 ign)
  | .reserved8 ign => .cmd (cmdWord 0x8#4 ign)
  | .reserved9 ign => .cmd (cmdWord 0x9#4 ign)
  | .reservedA ign => .cmd (cmdWord 0xA#4 ign)
  | .reservedB ign => .cmd (cmdWord 0xB#4 ign)
  | .reservedC ign => .cmd (cmdWord 0xC#4 ign)
  | .reservedD ign => .cmd (cmdWord 0xD#4 ign)
  | .reservedE ign => .cmd (cmdWord 0xE#4 ign)
  | .softReset ign => .cmd (cmdWord 0xF#4 ign)
  | .rdId => .bus (.read 0x000#12)
  | .rdVersion => .bus (.read 0x004#12)
  | .rdHwcfg0 => .bus (.read 0x008#12)
  | .rdHwcfg1 => .bus (.read 0x00C#12)
  | .rdStatus => .bus (.read 0x014#12)
  | .rdErrInfo => .bus (.read 0x018#12)
  | .rdIrqStatus => .bus (.read 0x01C#12)
  | .rdIrqEnable => .bus (.read 0x020#12)
  | .rdFrameCfg => .bus (.read 0x030#12)
  | .rdFixedLen => .bus (.read 0x034#12)
  | .rdLenField => .bus (.read 0x038#12)
  | .rdMaxLen => .bus (.read 0x03C#12)
  | .rdSyncWindow => .bus (.read 0x040#12)
  | .rdHdrBytes0 => .bus (.read 0x044#12)
  | .rdHdrBytes1 => .bus (.read 0x048#12)
  | .rdCkCfg => .bus (.read 0x050#12)
  | .rdCkRange => .bus (.read 0x054#12)
  | .rdCkStoreAt => .bus (.read 0x058#12)
  | .rdCrcPoly => .bus (.read 0x05C#12)
  | .rdCrcInit => .bus (.read 0x060#12)
  | .rdCrcXorout => .bus (.read 0x064#12)
  | .rdXsBounds0 => .bus (.read 0x080#12)
  | .rdXsStep0 => .bus (.read 0x084#12)
  | .rdXsRela0 => .bus (.read 0x088#12)
  | .rdXsRelb0 => .bus (.read 0x08C#12)
  | .rdXsBounds1 => .bus (.read 0x090#12)
  | .rdXsStep1 => .bus (.read 0x094#12)
  | .rdXsRela1 => .bus (.read 0x098#12)
  | .rdXsRelb1 => .bus (.read 0x09C#12)
  | .rdXsBounds2 => .bus (.read 0x0A0#12)
  | .rdXsStep2 => .bus (.read 0x0A4#12)
  | .rdXsRela2 => .bus (.read 0x0A8#12)
  | .rdXsRelb2 => .bus (.read 0x0AC#12)
  | .rdXsBounds3 => .bus (.read 0x0B0#12)
  | .rdXsStep3 => .bus (.read 0x0B4#12)
  | .rdXsRela3 => .bus (.read 0x0B8#12)
  | .rdXsRelb3 => .bus (.read 0x0BC#12)
  | .rdOutLevel => .bus (.read 0x114#12)
  | .rdPendLevel => .bus (.read 0x118#12)
  | .rdCntFrames => .bus (.read 0x120#12)
  | .rdCntResync => .bus (.read 0x124#12)
  | .rdCntDiscard => .bus (.read 0x128#12)
  | .rdCntDropped => .bus (.read 0x12C#12)
  | .rdCkLevel => .bus (.read 0x148#12)
  | .rdCkResult => .bus (.read 0x14C#12)
  | .rdCkStored => .bus (.read 0x150#12)
  | .wrIrqEnable data => .bus (.write 0x020#12 data)
  | .wrFrameCfg data => .bus (.write 0x030#12 data)
  | .wrFixedLen data => .bus (.write 0x034#12 data)
  | .wrLenField data => .bus (.write 0x038#12 data)
  | .wrMaxLen data => .bus (.write 0x03C#12 data)
  | .wrSyncWindow data => .bus (.write 0x040#12 data)
  | .wrHdrBytes0 data => .bus (.write 0x044#12 data)
  | .wrHdrBytes1 data => .bus (.write 0x048#12 data)
  | .wrCkCfg data => .bus (.write 0x050#12 data)
  | .wrCkRange data => .bus (.write 0x054#12 data)
  | .wrCkStoreAt data => .bus (.write 0x058#12 data)
  | .wrCrcPoly data => .bus (.write 0x05C#12 data)
  | .wrCrcInit data => .bus (.write 0x060#12 data)
  | .wrCrcXorout data => .bus (.write 0x064#12 data)
  | .wrXsBounds0 data => .bus (.write 0x080#12 data)
  | .wrXsStep0 data => .bus (.write 0x084#12 data)
  | .wrXsRela0 data => .bus (.write 0x088#12 data)
  | .wrXsRelb0 data => .bus (.write 0x08C#12 data)
  | .wrXsBounds1 data => .bus (.write 0x090#12 data)
  | .wrXsStep1 data => .bus (.write 0x094#12 data)
  | .wrXsRela1 data => .bus (.write 0x098#12 data)
  | .wrXsRelb1 data => .bus (.write 0x09C#12 data)
  | .wrXsBounds2 data => .bus (.write 0x0A0#12 data)
  | .wrXsStep2 data => .bus (.write 0x0A4#12 data)
  | .wrXsRela2 data => .bus (.write 0x0A8#12 data)
  | .wrXsRelb2 data => .bus (.write 0x0AC#12 data)
  | .wrXsBounds3 data => .bus (.write 0x0B0#12 data)
  | .wrXsStep3 data => .bus (.write 0x0B4#12 data)
  | .wrXsRela3 data => .bus (.write 0x0B8#12 data)
  | .wrXsRelb3 data => .bus (.write 0x0BC#12 data)
  | .cmdWrite data => .bus (.write 0x010#12 data)
  | .data8 data => .bus (.write 0x100#12 data)
  | .data32 data => .bus (.write 0x104#12 data)
  | .outPop => .bus (.read 0x110#12)
  | .ckData8 data => .bus (.write 0x140#12 data)
  | .ckData32 data => .bus (.write 0x144#12 data)
  | .irqW1c data => .bus (.write 0x01C#12 data)
  | .reservedAccess op => .bus op

/-- The access that carries an encoded object to the block: a CMD data word is the data of a write to CMD
(30_encoding.md R80, 10_state.md R25). -/
def Encoded.toAccess : Encoded → Access
  | .bus op => op.toAccess
  | .cmd data => BusOp.toAccess (.write 0x010#12 data)

/-- The encoded object of a word of spec/opcode_table.json. A word of at most 8 bits, or of 32, is a row of the format
CMD (the table's mask 0x0000000F); any other is a row of the format BUS (its mask 0xFFC), a byte offset. The table's
words do not hold the direction: where a read of the offset has a row, the word is that read, else the write if that
has one (log entry 12). -/
def tableEncoded (nbits w : Nat) : Option Encoded :=
  if nbits ≤ 8 ∨ nbits = 32 then some (.cmd (BitVec.ofNat 32 w))
  else if 0xFFF < w then none
  else
    let off := BitVec.ofNat 12 w
    if (BusOp.read off).unmatched && !(BusOp.write off 0).unmatched then some (.bus (.write off 0))
    else some (.bus (.read off))

/-- The instruction the decoder reads from a word of spec/opcode_table.json. -/
def decodeTableWord (nbits w : Nat) : Option Instr :=
  match tableEncoded nbits w with
  | none => none
  | some e =>
    match decode e with
    | .ok i => some i
    | .error _ => none

/-- The access that carries a word of spec/opcode_table.json to the block; a word beyond the window is an access
outside it. -/
def tableAccess (nbits w : Nat) : Access :=
  match tableEncoded nbits w with
  | some e => e.toAccess
  | none => ⟨.read, 4, w, 0⟩

end Sys2Proof
end

