-- ==== Sys2Proof/Config.lean ====
section
/-! DEFINITION. What a build of the block fixes: the parameters of 00_scope.md R9, as data, and the two things of
which nothing but their constraints is known: the parameter values of the machine at hand and the cs15 function. -/

namespace Sys2Proof

/-- The hardware parameters of 00_scope.md R9 (all but `CS15_FN`, which is a function). -/
structure HwParams where
  /-- Capacity of the pending buffer in bytes. -/
  bufDepth : Nat
  /-- Capacity of the output FIFO in words. -/
  outDepth : Nat
  /-- Capacity of the stand-alone checksum span buffer in bytes. -/
  ckSpanDepth : Nat
  /-- Longest header pattern in bytes. -/
  hdrMax : Nat
  /-- Entries in the xor16 slice table. -/
  nSlices : Nat
  /-- Relative offsets per slice. -/
  nRel : Nat
  /-- The cs15 family is built in. -/
  cs15Impl : Bool
  /-- Bus address of register offset 0x000. -/
  base : Nat
deriving DecidableEq, Repr, Inhabited

/-- The constraints 00_scope.md R9 puts on the parameters. -/
abbrev HwParams.Legal (h : HwParams) : Prop :=
  (2 ≤ h.bufDepth ∧ h.bufDepth ≤ 65535) ∧ (3 ≤ h.outDepth ∧ h.outDepth ≤ 65535) ∧
  (1 ≤ h.ckSpanDepth ∧ h.ckSpanDepth ≤ 65535) ∧ (1 ≤ h.hdrMax ∧ h.hdrMax ≤ 8) ∧
  (1 ≤ h.nSlices ∧ h.nSlices ≤ 8) ∧ (1 ≤ h.nRel ∧ h.nRel ≤ 8) ∧ h.base % 4096 = 0

namespace Config

/-- The nearest value within the bounds. -/
def clamp (lo hi n : Nat) : Nat := max lo (min hi n)

/-- The nearest legal parameters: a legal choice is left as it is. -/
def clampHw (h : HwParams) : HwParams where
  bufDepth := clamp 2 65535 h.bufDepth
  outDepth := clamp 3 65535 h.outDepth
  ckSpanDepth := clamp 1 65535 h.ckSpanDepth
  hdrMax := clamp 1 8 h.hdrMax
  nSlices := clamp 1 8 h.nSlices
  nRel := clamp 1 8 h.nRel
  cs15Impl := h.cs15Impl
  base := h.base / 4096 * 4096

/-- The implementer's choice of parameters, of which the spec states none (00_scope.md R9, 92_eei_decisions.md D46):
no body, so no proof can use a value of it. -/
opaque hwChoice : HwParams

/-- The parameters of the machine at hand: any legal ones (log entry 4). -/
def hw : HwParams := clampHw hwChoice

/-- The reference values of 00_scope.md R9, used by the test vectors of 95_test_vectors.md alone. -/
def reference : HwParams where
  bufDepth := 1024
  outDepth := 512
  ckSpanDepth := 1024
  hdrMax := 8
  nSlices := 4
  nRel := 8
  cs15Impl := false
  base := 0

/-- `CS15_FN`, the cs15 function: uninterpreted, "do not guess a fold rule" (00_scope.md R9, R14; 40_checksum_engine.md
R108; log entry 5). -/
opaque cs15Fn : List Byte → BitVec 16

end Config

end Sys2Proof
end

