-- ==== Sys2Proof/Machine/State.lean ====
section
/-! DEFINITION. The state of the block (10_state.md R20-R59), the reasons a step can stop, and reset. -/

namespace Sys2Proof.Machine

/-- The operating mode (10_state.md R49). -/
inductive Mode where
  /-- No session; configuration is writable. -/
  | idle
  /-- A session is active and its configuration is locked. -/
  | armed
  /-- The last ARM failed; configuration is writable. -/
  | cfgErr
deriving DecidableEq, Repr

/-- The synchronizer's resting states (10_state.md R50, 42_frame_synchronizer.md R161). -/
inductive Fsm where
  | seekingHeader
  | lengthPending
  | bodyPending
deriving DecidableEq, Repr

/-- The four registers of one xor16 slice (10_state.md R42). -/
structure XsSlice where
  bounds : Word
  step : Word
  relA : Word
  relB : Word
deriving DecidableEq, Repr

/-- The configuration-locked registers (10_state.md R30-R42), each as the word a read returns. -/
structure ClRegs where
  frameCfg : Word
  fixedLen : Word
  lenField : Word
  maxLen : Word
  syncWindow : Word
  hdrBytes0 : Word
  hdrBytes1 : Word
  ckCfg : Word
  ckRange : Word
  ckStoreAt : Word
  crcPoly : Word
  crcInit : Word
  crcXorout : Word
  /-- The slice table: a build has the entries below its N_SLICES, which is at most 8. -/
  xs : Vector XsSlice 8
deriving DecidableEq, Repr

/-- The names of the configuration-locked registers (10_state.md R20). -/
inductive ClReg where
  | frameCfg
  | fixedLen
  | lenField
  | maxLen
  | syncWindow
  | hdrBytes0
  | hdrBytes1
  | ckCfg
  | ckRange
  | ckStoreAt
  | crcPoly
  | crcInit
  | crcXorout
  | xsBounds (slice : Fin 8)
  | xsStep (slice : Fin 8)
  | xsRelA (slice : Fin 8)
  | xsRelB (slice : Fin 8)
deriving DecidableEq, Repr

/-- The interrupt sources (10_state.md R28, 60_exceptions.md R272). -/
inductive IrqSource where
  | frame
  | resync
  | discard
  | outOvf
  | cfgErr
  | opErr
  | ckDone
deriving DecidableEq, Repr

/-- The configuration errors, raised only by ARM (60_exceptions.md R266). -/
inductive CfgError where
  | unsupportedType
  | badHeader
  | badMaxLen
  | badWindow
  | badLength
  | badStore
  | badSlices
  | badGeometry
deriving DecidableEq, Repr

/-- The operation errors (60_exceptions.md R268). -/
inductive OpError where
  | reservedOpcode
  | badMode
  | pushNotArmed
  | ckSpanFull
  | cfgLocked
  | outEmpty
deriving DecidableEq, Repr

/-- The state of the block, with the build's parameters and the two ends of the bus. -/
structure State where
  /-- The build's parameters (00_scope.md R9); no step changes them (log entry 4). -/
  hw : HwParams
  /-- MODE (10_state.md R49). -/
  mode : Mode
  /-- FSM (10_state.md R50). -/
  fsm : Fsm
  /-- CandLen, meaningful only in BODY_PENDING (10_state.md R50). -/
  candLen : Nat
  /-- Pend, oldest byte first (10_state.md R51). -/
  pend : List Byte
  /-- Out, oldest word first (10_state.md R52). -/
  out : List Word
  /-- Span, oldest byte first (10_state.md R53). -/
  span : List Byte
  /-- STATUS.CK_VALID (10_state.md R26). -/
  ckValid : Bool
  /-- STATUS.CK_MATCH (10_state.md R26). -/
  ckMatch : Bool
  /-- STATUS.CK_GEOM_ERR (10_state.md R26). -/
  ckGeomErr : Bool
  /-- STATUS.CK_OVF (10_state.md R26). -/
  ckOvf : Bool
  /-- STATUS.CFG_ERR_CODE (10_state.md R26). -/
  cfgErrCode : BitVec 8
  /-- ERR_INFO.LAST_OP_ERR (10_state.md R27). -/
  lastOpErr : BitVec 8
  /-- IRQ_STATUS (10_state.md R28). -/
  irqStatus : BitVec 7
  /-- IRQ_ENABLE (10_state.md R29). -/
  irqEnable : BitVec 7
  /-- CNT_FRAMES (10_state.md R47). -/
  cntFrames : Word
  /-- CNT_RESYNC (10_state.md R47). -/
  cntResync : Word
  /-- CNT_DISCARD (10_state.md R47). -/
  cntDiscard : Word
  /-- CNT_DROPPED (10_state.md R47). -/
  cntDropped : Word
  /-- CK_RESULT (10_state.md R48). -/
  ckResult : Word
  /-- CK_STORED (10_state.md R48). -/
  ckStored : Word
  /-- The CL registers (10_state.md R30-R42). -/
  cfg : ClRegs
  /-- CrcTable, entry i at position i (10_state.md R54; log entry 7). -/
  crcTable : List Word
  /-- The model's own: the value the last access returned, none after a write (44_bus_operations.md R229; log
  entry 2). -/
  readData : Option Word
  /-- The model's own: the host's events that the block has not seen yet, in order of arrival (20_memory.md R69; log
  entry 1). -/
  host : List HostEvent
deriving DecidableEq, Repr

/-- Why the block stops. The block the spec describes never stops (60_exceptions.md R260): each of these is raised only
in states that no run reaches, where the spec itself gives no next state (log entry 11). -/
inductive Fault where
  /-- Raised by DATA8, DATA32, CMD_WRITE and FLUSH where Run() of 42_frame_synchronizer.md R163 (or FLUSH's own loop,
  43_commands.md R204) would not return, which R166 excludes in every reachable state. Safe: the model stops where the
  spec gives no next state. -/
  | runDoesNotReturn
  /-- Raised by DATA8, DATA32, CMD_WRITE, FLUSH, CK_COMPUTE and CK_VERIFY where the checksum engine is called against
  its own requirement: with an unsupported TYPE (40_checksum_engine.md R123) or, by the synchronizer, on a candidate
  whose geometry does not hold (R118, 42_frame_synchronizer.md R172). Safe: the model stops where the spec gives no
  value. -/
  | engineOutsideContract
deriving DecidableEq, Repr

/-- Why the model gives an access no meaning. -/
inductive Refusal where
  /-- Raised by an arm of `exec` for an instruction that has no meaning yet; no arm is one. Safe. -/
  | notModelled (mnemonic : String)
  /-- Raised by `step` for a host-protocol violation, an access to which the spec gives no meaning (00_scope.md R19).
  Safe: nothing is proved of a machine that was given one. -/
  | hostProtocol (why : Reject)
deriving DecidableEq, Repr

namespace State

/-- Every CL register 0 (10_state.md R57). -/
def zeroCfg : ClRegs where
  frameCfg := 0
  fixedLen := 0
  lenField := 0
  maxLen := 0
  syncWindow := 0
  hdrBytes0 := 0
  hdrBytes1 := 0
  ckCfg := 0
  ckRange := 0
  ckStoreAt := 0
  crcPoly := 0
  crcInit := 0
  crcXorout := 0
  xs := #v[⟨0, 0, 0, 0⟩, ⟨0, 0, 0, 0⟩, ⟨0, 0, 0, 0⟩, ⟨0, 0, 0, 0⟩,
    ⟨0, 0, 0, 0⟩, ⟨0, 0, 0, 0⟩, ⟨0, 0, 0, 0⟩, ⟨0, 0, 0, 0⟩]

/-- A machine of a given build right after reset (10_state.md R57, 70_reset_and_hazards.md R290). The spec leaves
CandLen and CrcTable unspecified and unobservable; their values here are log entries 6 and 7. -/
def resetFor (hw : HwParams) : State where
  hw := hw
  mode := .idle
  fsm := .seekingHeader
  candLen := 0
  pend := []
  out := []
  span := []
  ckValid := false
  ckMatch := false
  ckGeomErr := false
  ckOvf := false
  cfgErrCode := 0
  lastOpErr := 0
  irqStatus := 0
  irqEnable := 0
  cntFrames := 0
  cntResync := 0
  cntDiscard := 0
  cntDropped := 0
  ckResult := 0
  ckStored := 0
  cfg := zeroCfg
  crcTable := List.replicate 256 0
  readData := none
  host := []

/-- The machine right after reset, for the parameters of the machine at hand. -/
def reset : State := resetFor Config.hw

end State

end Sys2Proof.Machine
end

