-- ==== Sys2Proof/Machine/Operands.lean ====
section
/-! DEFINITION. The fields of the configuration registers as operands (10_state.md R30-R42, 30_encoding.md R83-R85),
the registers by name, byte lanes, and the two byte orders. -/

namespace Sys2Proof.Machine

/-- Byte lane k of a word, bits [8k+7:8k] (20_memory.md R62). -/
def lane (w : Word) (k : Nat) : Byte := w.extractLsb' (8 * k) 8

/-- The word with the given lanes, lane 0 first (20_memory.md R62). -/
def ofLanes (b0 b1 b2 b3 : Byte) : Word := b3 ++ b2 ++ b1 ++ b0

/-- The number the bytes denote, first byte least significant. -/
def leNat : List Byte → Nat
  | [] => 0
  | b :: bs => b.toNat + 256 * leNat bs

/-- `ReadLE(s, off, w)` (00_scope.md R12). -/
def readLE (s : List Byte) (off w : Nat) : Nat := leNat ((s.drop off).take w)

/-- `ReadBE(s, off, w)` (00_scope.md R12). -/
def readBE (s : List Byte) (off w : Nat) : Nat := leNat ((s.drop off).take w).reverse

/-- `abs(o, n)`, the position a signed offset refers to in a sequence of length n (00_scope.md R13). -/
def absOff (o : Int) (n : Nat) : Int := if 0 ≤ o then o else n + o

/-- The width in bytes of a width code, 0 → 1, 1 → 2, 2 → 4 (30_encoding.md R85); code 3 is illegal and no rule uses its
width (43_commands.md R201 checks 5 and 6; log entry 11). -/
def widthBytes (code : BitVec 2) : Nat := 2 ^ code.toNat

/-- The checksum families (30_encoding.md R84). -/
inductive CkFamily where
  | sum8
  | cs15
  | xor16
  | crc16
  | crc32
deriving DecidableEq, Repr

/-- The result width `rw` in bytes (30_encoding.md R84). -/
def CkFamily.resultBytes : CkFamily → Nat
  | .sum8 => 1
  | .cs15 => 2
  | .xor16 => 2
  | .crc16 => 2
  | .crc32 => 4

/-- The family of a TYPE code; 5, 6 and 7 name none (30_encoding.md R84). -/
def ckFamilyOf (code : BitVec 3) : Option CkFamily :=
  match code.toNat with
  | 0 => some .sum8
  | 1 => some .cs15
  | 2 => some .xor16
  | 3 => some .crc16
  | 4 => some .crc32
  | _ => none

/-! ## Frame configuration (10_state.md R30-R35) -/

/-- HDR_LEN (10_state.md R30). -/
def ClRegs.hdrLen (c : ClRegs) : Nat := (c.frameCfg.extractLsb' 0 4).toNat

/-- LEN_MODE = 1, the Dynamic mode (10_state.md R30). -/
def ClRegs.dynamic (c : ClRegs) : Bool := c.frameCfg.getLsbD 8

/-- LEN_SIGNED (10_state.md R30). -/
def ClRegs.lenSigned (c : ClRegs) : Bool := c.frameCfg.getLsbD 9

/-- LEN_BE (10_state.md R30). -/
def ClRegs.lenBe (c : ClRegs) : Bool := c.frameCfg.getLsbD 10

/-- LEN_WIDTH (10_state.md R30). -/
def ClRegs.lenWidth (c : ClRegs) : BitVec 2 := c.frameCfg.extractLsb' 12 2

/-- `lw`, the length field's width in bytes (10_state.md R30). -/
def ClRegs.lw (c : ClRegs) : Nat := widthBytes c.lenWidth

/-- FIXED_LEN (10_state.md R31). -/
def ClRegs.fixedLength (c : ClRegs) : Nat := (c.fixedLen.extractLsb' 0 16).toNat

/-- OFF, the length field's offset (10_state.md R32). -/
def ClRegs.lenOff (c : ClRegs) : Nat := (c.lenField.extractLsb' 0 16).toNat

/-- OVERHEAD (10_state.md R32). -/
def ClRegs.overhead (c : ClRegs) : Nat := (c.lenField.extractLsb' 16 16).toNat

/-- MAX_LEN (10_state.md R33). -/
def ClRegs.maxLength (c : ClRegs) : Nat := (c.maxLen.extractLsb' 0 16).toNat

/-- W, the sync window (10_state.md R34). -/
def ClRegs.window (c : ClRegs) : Nat := (c.syncWindow.extractLsb' 0 16).toNat

/-- The eight header bytes, byte k in lane k mod 4 (10_state.md R35). -/
def ClRegs.hdrAll (c : ClRegs) : List Byte :=
  [lane c.hdrBytes0 0, lane c.hdrBytes0 1, lane c.hdrBytes0 2, lane c.hdrBytes0 3,
   lane c.hdrBytes1 0, lane c.hdrBytes1 1, lane c.hdrBytes1 2, lane c.hdrBytes1 3]

/-- `Hdr`, the header pattern (10_state.md R35). -/
def ClRegs.hdr (c : ClRegs) : List Byte := c.hdrAll.take c.hdrLen

/-! ## Checksum configuration (10_state.md R36-R42) -/

/-- TYPE (10_state.md R36). -/
def ClRegs.ckType (c : ClRegs) : BitVec 3 := c.ckCfg.extractLsb' 0 3

/-- The family TYPE selects (30_encoding.md R84). -/
def ClRegs.family (c : ClRegs) : Option CkFamily := ckFamilyOf c.ckType

/-- RANGE_INCL (10_state.md R36). -/
def ClRegs.rangeIncl (c : ClRegs) : Bool := c.ckCfg.getLsbD 4

/-- REFIN (10_state.md R36). -/
def ClRegs.refin (c : ClRegs) : Bool := c.ckCfg.getLsbD 5

/-- REFOUT (10_state.md R36). -/
def ClRegs.refout (c : ClRegs) : Bool := c.ckCfg.getLsbD 6

/-- STORE_WIDTH (10_state.md R36). -/
def ClRegs.storeWidth (c : ClRegs) : BitVec 2 := c.ckCfg.extractLsb' 8 2

/-- `sw`, the store width in bytes (10_state.md R36). -/
def ClRegs.sw (c : ClRegs) : Nat := widthBytes c.storeWidth

/-- STORE_BE (10_state.md R36). -/
def ClRegs.storeBe (c : ClRegs) : Bool := c.ckCfg.getLsbD 10

/-- CRC_METHOD = 1, table lookup (10_state.md R36). -/
def ClRegs.crcByTable (c : ClRegs) : Bool := c.ckCfg.getLsbD 12

/-- XS_COUNT (10_state.md R36). -/
def ClRegs.xsCount (c : ClRegs) : Nat := (c.ckCfg.extractLsb' 16 4).toNat

/-- FROM (10_state.md R37). -/
def ClRegs.rangeFrom (c : ClRegs) : Int := (c.ckRange.extractLsb' 0 16).toInt

/-- TO (10_state.md R37). -/
def ClRegs.rangeTo (c : ClRegs) : Int := (c.ckRange.extractLsb' 16 16).toInt

/-- STORE_AT (10_state.md R38). -/
def ClRegs.storeAt (c : ClRegs) : Int := (c.ckStoreAt.extractLsb' 0 16).toInt

/-- START_i (10_state.md R42). -/
def XsSlice.startOff (x : XsSlice) : Int := (x.bounds.extractLsb' 0 16).toInt

/-- END_i (10_state.md R42). -/
def XsSlice.endOff (x : XsSlice) : Int := (x.bounds.extractLsb' 16 16).toInt

/-- STRIDE_i (10_state.md R42). -/
def XsSlice.stride (x : XsSlice) : Nat := (x.step.extractLsb' 0 8).toNat

/-- NREL_i (10_state.md R42). -/
def XsSlice.nRel (x : XsSlice) : Nat := (x.step.extractLsb' 8 4).toNat

/-- REL_i[k] (10_state.md R42). -/
def XsSlice.rel (x : XsSlice) (k : Nat) : Int :=
  if k < 4 then (lane x.relA k).toInt else (lane x.relB (k - 4)).toInt

/-- Slices 0..XS_COUNT−1, the ones that take part (10_state.md R42). -/
def ClRegs.usedSlices (c : ClRegs) : List XsSlice := c.xs.toList.take c.xsCount

/-! ## The registers by name -/

/-- The slice a register belongs to, if it is one of the slice table. -/
def ClReg.slice? : ClReg → Option (Fin 8)
  | .xsBounds i => some i
  | .xsStep i => some i
  | .xsRelA i => some i
  | .xsRelB i => some i
  | _ => none

/-- The register exists in this build: slice i has registers when i < N_SLICES (10_state.md R20, R42). -/
def ClReg.present (hw : HwParams) (r : ClReg) : Bool :=
  match r.slice? with
  | some i => decide (i.val < hw.nSlices)
  | none => true

/-- The bits of a register that store what is written; the others read 0 (44_bus_operations.md R231). -/
def ClReg.mask : ClReg → Word
  | .frameCfg => 0x0000370F
  | .fixedLen => 0x0000FFFF
  | .lenField => 0xFFFFFFFF
  | .maxLen => 0x0000FFFF
  | .syncWindow => 0x0000FFFF
  | .hdrBytes0 => 0xFFFFFFFF
  | .hdrBytes1 => 0xFFFFFFFF
  | .ckCfg => 0x000F1777
  | .ckRange => 0xFFFFFFFF
  | .ckStoreAt => 0x0000FFFF
  | .crcPoly => 0xFFFFFFFF
  | .crcInit => 0xFFFFFFFF
  | .crcXorout => 0xFFFFFFFF
  | .xsBounds _ => 0xFFFFFFFF
  | .xsStep _ => 0x00000FFF
  | .xsRelA _ => 0xFFFFFFFF
  | .xsRelB _ => 0xFFFFFFFF

/-- The value of a register. -/
def ClRegs.get (c : ClRegs) : ClReg → Word
  | .frameCfg => c.frameCfg
  | .fixedLen => c.fixedLen
  | .lenField => c.lenField
  | .maxLen => c.maxLen
  | .syncWindow => c.syncWindow
  | .hdrBytes0 => c.hdrBytes0
  | .hdrBytes1 => c.hdrBytes1
  | .ckCfg => c.ckCfg
  | .ckRange => c.ckRange
  | .ckStoreAt => c.ckStoreAt
  | .crcPoly => c.crcPoly
  | .crcInit => c.crcInit
  | .crcXorout => c.crcXorout
  | .xsBounds i => c.xs[i].bounds
  | .xsStep i => c.xs[i].step
  | .xsRelA i => c.xs[i].relA
  | .xsRelB i => c.xs[i].relB

/-- The registers with one of them changed. -/
def ClRegs.set (c : ClRegs) (r : ClReg) (v : Word) : ClRegs :=
  match r with
  | .frameCfg => { c with frameCfg := v }
  | .fixedLen => { c with fixedLen := v }
  | .lenField => { c with lenField := v }
  | .maxLen => { c with maxLen := v }
  | .syncWindow => { c with syncWindow := v }
  | .hdrBytes0 => { c with hdrBytes0 := v }
  | .hdrBytes1 => { c with hdrBytes1 := v }
  | .ckCfg => { c with ckCfg := v }
  | .ckRange => { c with ckRange := v }
  | .ckStoreAt => { c with ckStoreAt := v }
  | .crcPoly => { c with crcPoly := v }
  | .crcInit => { c with crcInit := v }
  | .crcXorout => { c with crcXorout := v }
  | .xsBounds i => { c with xs := c.xs.set i { c.xs[i] with bounds := v } }
  | .xsStep i => { c with xs := c.xs.set i { c.xs[i] with step := v } }
  | .xsRelA i => { c with xs := c.xs.set i { c.xs[i] with relA := v } }
  | .xsRelB i => { c with xs := c.xs.set i { c.xs[i] with relB := v } }

/-- The slice-table register at an offset of 0x080-0x0FC (10_state.md R20, R42). -/
def xsRegAt (off : BitVec 12) : Option ClReg :=
  let n := off.toNat
  if 0x080 ≤ n ∧ n < 0x100 then
    let i : Fin 8 := Fin.ofNat 8 ((n - 0x080) / 16)
    match (n % 16) / 4 with
    | 0 => some (.xsBounds i)
    | 1 => some (.xsStep i)
    | 2 => some (.xsRelA i)
    | _ => some (.xsRelB i)
  else none

end Sys2Proof.Machine
end

