-- ==== Sys2Proof/Machine/Flags.lean ====
section
/-! DEFINITION. The codes and flag words of the block: STATUS (10_state.md R26), the interrupt bits (R28), the error
codes (60_exceptions.md R266, R268), the identification words (10_state.md R22-R24) and the interrupt output
(60_exceptions.md R275). -/

namespace Sys2Proof.Machine

/-- MODE's code in STATUS[1:0] (10_state.md R26). -/
def Mode.code : Mode → BitVec 2
  | .idle => 0
  | .armed => 1
  | .cfgErr => 2

/-- FSM's code in STATUS[3:2] (10_state.md R26). -/
def Fsm.code : Fsm → BitVec 2
  | .seekingHeader => 0
  | .lengthPending => 1
  | .bodyPending => 2

/-- The IRQ_STATUS bit of a source (10_state.md R28). -/
def IrqSource.bit : IrqSource → BitVec 7
  | .frame => 0x01
  | .resync => 0x02
  | .discard => 0x04
  | .outOvf => 0x08
  | .cfgErr => 0x10
  | .opErr => 0x20
  | .ckDone => 0x40

/-- The code of a configuration error (60_exceptions.md R266). -/
def CfgError.code : CfgError → BitVec 8
  | .unsupportedType => 1
  | .badHeader => 2
  | .badMaxLen => 3
  | .badWindow => 4
  | .badLength => 5
  | .badStore => 6
  | .badSlices => 7
  | .badGeometry => 8

/-- The code of an operation error (60_exceptions.md R268). -/
def OpError.code : OpError → BitVec 8
  | .reservedOpcode => 1
  | .badMode => 2
  | .pushNotArmed => 3
  | .ckSpanFull => 4
  | .cfgLocked => 5
  | .outEmpty => 6

/-- One bit as a word. -/
def bitWord (b : Bool) : Word := (BitVec.ofBool b).setWidth 32

/-- STATUS, assembled from the state (10_state.md R26, 44_bus_operations.md R230). -/
def statusWord (s : State) : Word :=
  s.mode.code.setWidth 32
  ||| ((if s.mode = .armed then s.fsm.code else 0).setWidth 32 <<< 2)
  ||| (bitWord s.ckValid <<< 8) ||| (bitWord s.ckMatch <<< 9)
  ||| (bitWord s.ckGeomErr <<< 10) ||| (bitWord s.ckOvf <<< 11)
  ||| (bitWord s.out.isEmpty <<< 12)
  ||| (s.cfgErrCode.setWidth 32 <<< 16)

/-- ID (10_state.md R22). -/
def idWord : Word := 0x43454653

/-- VERSION (10_state.md R22). -/
def versionWord : Word := 0x00010000

/-- HWCFG0 (10_state.md R23). -/
def hwcfg0Word (h : HwParams) : Word :=
  (BitVec.ofNat 16 h.bufDepth).setWidth 32 ||| ((BitVec.ofNat 16 h.outDepth).setWidth 32 <<< 16)

/-- HWCFG1 (10_state.md R24). -/
def hwcfg1Word (h : HwParams) : Word :=
  (BitVec.ofNat 16 h.ckSpanDepth).setWidth 32
  ||| ((BitVec.ofNat 4 h.hdrMax).setWidth 32 <<< 16)
  ||| ((BitVec.ofNat 4 h.nSlices).setWidth 32 <<< 20)
  ||| ((BitVec.ofNat 4 h.nRel).setWidth 32 <<< 24)
  ||| (bitWord h.cs15Impl <<< 28)

/-- A level register: bits [15:0] = the level (10_state.md R45, R46, R48). -/
def levelWord (n : Nat) : Word := (BitVec.ofNat 16 n).setWidth 32

/-- The interrupt output (60_exceptions.md R275). -/
def irq (s : State) : Bool := s.irqStatus &&& s.irqEnable != 0

end Sys2Proof.Machine
end

