-- ==== Sys2Proof/Machine/Checksum.lean ====
section
/-! DEFINITION. The checksum engine: a pure function of the CL registers and a byte sequence (40_checksum_engine.md
R100-R123). -/

namespace Sys2Proof.Machine

/-! ## Coverage and geometry -/

/-- A pair of bounds is legal for length n: half-open `0 ≤ a ≤ e ≤ n`, inclusive `0 ≤ a ≤ e ≤ n − 1`
(40_checksum_engine.md R101, R105). -/
def boundsLegal (incl : Bool) (a e : Int) (n : Nat) : Bool :=
  decide (0 ≤ a ∧ a ≤ e ∧ e ≤ if incl then (n : Int) - 1 else n)

/-- The range is legal for length n (40_checksum_engine.md R101). -/
def ClRegs.rangeLegal (c : ClRegs) (n : Nat) : Bool :=
  boundsLegal c.rangeIncl (absOff c.rangeFrom n) (absOff c.rangeTo n) n

/-- `Covered(frame)`, for a legal range (40_checksum_engine.md R101). -/
def ClRegs.covered (c : ClRegs) (frame : List Byte) : List Byte :=
  let f := (absOff c.rangeFrom frame.length).toNat
  let t := (absOff c.rangeTo frame.length).toNat
  (frame.take (if c.rangeIncl then t + 1 else t)).drop f

/-- The positions `a, a + STRIDE, a + 2·STRIDE, ...` of a slice, while `p < e` (half-open) or `p ≤ e` (inclusive); for
legal bounds and STRIDE ≥ 1 there are at most n of them (40_checksum_engine.md R105). -/
def XsSlice.positions (x : XsSlice) (incl : Bool) (n : Nat) : List Int :=
  let a := absOff x.startOff n
  let e := absOff x.endOff n
  ((List.range (n + 1)).map fun k => a + (k * x.stride : Nat)).takeWhile fun p =>
    if incl then decide (p ≤ e) else decide (p < e)

/-- The visits of a slice in order, each a byte position and a lane (40_checksum_engine.md R105). -/
def XsSlice.visits (x : XsSlice) (incl : Bool) (n : Nat) : List (Int × Nat) :=
  (x.positions incl n).flatMap fun p => (List.range x.nRel).map fun j => (p + x.rel j, j % 2)

/-- The slice is legal for length n (40_checksum_engine.md R105). -/
def XsSlice.legal (x : XsSlice) (incl : Bool) (n : Nat) : Bool :=
  boundsLegal incl (absOff x.startOff n) (absOff x.endOff n) n &&
  (x.visits incl n).all fun v => decide (0 ≤ v.1 ∧ v.1 < n)

/-- Every slice that takes part is legal for length n (40_checksum_engine.md R102). -/
def ClRegs.slicesLegal (c : ClRegs) (n : Nat) : Bool :=
  c.usedSlices.all fun x => x.legal c.rangeIncl n

/-- `abs(STORE_AT, n)` (40_checksum_engine.md R102). -/
def ClRegs.storePos (c : ClRegs) (n : Nat) : Int := absOff c.storeAt n

/-- `CkGeom(n)` (40_checksum_engine.md R102). -/
def ClRegs.ckGeom (c : ClRegs) (n : Nat) : Bool :=
  (if c.family = some .xor16 then c.slicesLegal n else c.rangeLegal n) &&
  decide (0 ≤ c.storePos n ∧ c.storePos n + c.sw ≤ n)

/-! ## Families -/

/-- `Sum8(c)` (40_checksum_engine.md R104). -/
def sum8 (bytes : List Byte) : Byte := bytes.foldl (· + ·) 0

/-- `Cs15(c)` (40_checksum_engine.md R108). -/
def cs15 (bytes : List Byte) : BitVec 16 := Config.cs15Fn bytes

/-- The byte at a position of the frame; the legality of the slices keeps the position inside (40_checksum_engine.md
R105), so the value outside it is never used. -/
def byteAt (frame : List Byte) (q : Int) : Byte := frame.getD q.toNat 0

/-- One visit: the byte goes into bits [7:0] in lane 0, into bits [15:8] in lane 1 (40_checksum_engine.md R106). -/
def xorVisit (frame : List Byte) (acc : BitVec 16) (v : Int × Nat) : BitVec 16 :=
  acc ^^^ ((byteAt frame v.1).setWidth 16 <<< (8 * v.2))

/-- `Xor16(frame)` (40_checksum_engine.md R107). -/
def xor16 (c : ClRegs) (frame : List Byte) : BitVec 16 :=
  (c.usedSlices.flatMap fun x => x.visits c.rangeIncl frame.length).foldl (xorVisit frame) 0

/-- One shift step of the polynomial division (40_checksum_engine.md R110). -/
def crcShift {w : Nat} (poly reg : BitVec w) : BitVec w :=
  if reg.msb then (reg <<< 1) ^^^ poly else reg <<< 1

/-- Eight shift steps (40_checksum_engine.md R110, R115). -/
def crcShift8 {w : Nat} (poly reg : BitVec w) : BitVec w := (crcShift poly)^[8] reg

/-- A byte at the top of a w-bit register, `zext_w(d) << (w − 8)` (40_checksum_engine.md R110). -/
def crcTop (w : Nat) (d : Byte) : BitVec w := d.setWidth w <<< (w - 8)

/-- One byte by polynomial division (40_checksum_engine.md R110). -/
def crcByteBitwise {w : Nat} (poly reg : BitVec w) (d : Byte) : BitVec w :=
  crcShift8 poly (reg ^^^ crcTop w d)

/-- Entry `T[i]` of the table (40_checksum_engine.md R115). -/
def crcTableEntry {w : Nat} (poly : BitVec w) (i : Byte) : BitVec w := crcShift8 poly (crcTop w i)

/-- One byte by table lookup (40_checksum_engine.md R115). -/
def crcByteTable {w : Nat} (poly reg : BitVec w) (d : Byte) : BitVec w :=
  (reg <<< 8) ^^^ crcTableEntry poly ((reg >>> (w - 8)).setWidth 8 ^^^ d)

/-- The parameters of a CRC variant (40_checksum_engine.md R109) and the realisation used (R115). -/
structure CrcParams (w : Nat) where
  poly : BitVec w
  init : BitVec w
  xorout : BitVec w
  refin : Bool
  refout : Bool
  byTable : Bool
deriving DecidableEq, Repr

/-- The input byte, reflected if REFIN (40_checksum_engine.md R110, R111). -/
def CrcParams.input {w : Nat} (p : CrcParams w) (b : Byte) : Byte := if p.refin then b.reverse else b

/-- The result of the register after the last byte: REFOUT, then XOROUT (40_checksum_engine.md R110, R112). -/
def CrcParams.output {w : Nat} (p : CrcParams w) (reg : BitVec w) : BitVec w :=
  (if p.refout then reg.reverse else reg) ^^^ p.xorout

/-- `Crc(w, data)` (40_checksum_engine.md R110, and R115 when CRC_METHOD = 1; log entry 8). -/
def crc {w : Nat} (p : CrcParams w) (data : List Byte) : BitVec w :=
  p.output (data.foldl (fun reg b =>
    if p.byTable then crcByteTable p.poly reg (p.input b) else crcByteBitwise p.poly reg (p.input b)) p.init)

/-- The CRC parameters of the CL registers, each word taken modulo 2^w (40_checksum_engine.md R109). -/
def ClRegs.crcParams (c : ClRegs) (w : Nat) : CrcParams w where
  poly := c.crcPoly.setWidth w
  init := c.crcInit.setWidth w
  xorout := c.crcXorout.setWidth w
  refin := c.refin
  refout := c.refout
  byTable := c.crcByTable

/-- `Table(CRC_POLY, w)` for the width of the configured CRC, entries zero-extended; none for the other families
(10_state.md R54, 43_commands.md R202). -/
def ClRegs.crcTableWords (c : ClRegs) : Option (List Word) :=
  match c.family with
  | some .crc16 =>
    some ((List.range 256).map fun i => (crcTableEntry (c.crcPoly.setWidth 16) (BitVec.ofNat 8 i)).setWidth 32)
  | some .crc32 => some ((List.range 256).map fun i => crcTableEntry c.crcPoly (BitVec.ofNat 8 i))
  | _ => none

/-! ## Dispatch and verify -/

/-- The family's value over a byte sequence, zero-extended to 32 bits; xor16 visits the sequence `whole`, the others
cover `bytes` (40_checksum_engine.md R103). -/
def familyValue (c : ClRegs) (f : CkFamily) (whole bytes : List Byte) : Word :=
  match f with
  | .sum8 => (sum8 bytes).setWidth 32
  | .cs15 => (cs15 bytes).setWidth 32
  | .xor16 => (xor16 c whole).setWidth 32
  | .crc16 => (crc (c.crcParams 16) bytes).setWidth 32
  | .crc32 => crc (c.crcParams 32) bytes

/-- `Value(frame)`, none for an unsupported TYPE (40_checksum_engine.md R103, R123). -/
def ClRegs.value (c : ClRegs) (frame : List Byte) : Option Word :=
  c.family.map fun f => familyValue c f frame (c.covered frame)

/-- `ValueSpan(span)`, none for an unsupported TYPE (40_checksum_engine.md R103, R123). -/
def ClRegs.valueSpan (c : ClRegs) (span : List Byte) : Option Word :=
  c.family.map fun f => familyValue c f span span

/-- `Stored(frame)`, zero-extended to 32 bits (40_checksum_engine.md R117). -/
def ClRegs.stored (c : ClRegs) (frame : List Byte) : Word :=
  let s := (c.storePos frame.length).toNat
  BitVec.ofNat 32 (if c.storeBe then readBE frame s c.sw else readLE frame s c.sw)

/-- The triple of `Verify` (40_checksum_engine.md R118). -/
structure Verdict where
  ok : Bool
  computed : Word
  stored : Word
deriving DecidableEq, Repr

/-- `Verify(frame)`, none where its requirement CkGeom(len(frame)) or the TYPE's support fails (40_checksum_engine.md
R118, R123). -/
def ClRegs.verify (c : ClRegs) (frame : List Byte) : Option Verdict :=
  if c.ckGeom frame.length then
    (c.value frame).map fun v => ⟨v == c.stored frame, v, c.stored frame⟩
  else none

end Sys2Proof.Machine
end

