-- ==== Sys2Proof/Machine/Length.lean ====
section
/-! DEFINITION. The length resolver (41_length_resolver.md R140-R146). -/

namespace Sys2Proof.Machine

/-- Why a length is invalid (30_encoding.md R88, 41_length_resolver.md R145). -/
inductive LenReason where
  | notPositive
  | overMax
  | geometry
deriving DecidableEq, Repr

/-- The result of `Resolve` (41_length_resolver.md R140). -/
inductive Resolved where
  | ok (len : Nat)
  | need
  | invalid (reason : LenReason) (raw : Word)
deriving DecidableEq, Repr

/-- REASON in a LEN_INVALID descriptor (30_encoding.md R88). -/
def LenReason.code : LenReason → Word
  | .notPositive => 1
  | .overMax => 2
  | .geometry => 3

/-- The length field's unsigned value (41_length_resolver.md R143). -/
def ClRegs.lenRaw (c : ClRegs) (pend : List Byte) : Nat :=
  if c.lenBe then readBE pend c.lenOff c.lw else readLE pend c.lenOff c.lw

/-- The length field's value, two's complement if LEN_SIGNED (41_length_resolver.md R143). -/
def ClRegs.lenValue (c : ClRegs) (pend : List Byte) : Int :=
  if c.lenSigned then (BitVec.ofNat (8 * c.lw) (c.lenRaw pend)).toInt else c.lenRaw pend

/-- The total length `v + OVERHEAD`, on integers (41_length_resolver.md R144). -/
def ClRegs.lenTotal (c : ClRegs) (pend : List Byte) : Int := c.lenValue pend + c.overhead

/-- The validity checks of a resolved length, in order (41_length_resolver.md R145). -/
def ClRegs.checkLength (c : ClRegs) (total : Int) (raw : Word) : Resolved :=
  if total ≤ 0 then .invalid .notPositive raw
  else if (c.maxLength : Int) < total then .invalid .overMax raw
  else if total < c.hdrLen ∨ total < c.lenOff + c.lw ∨ c.ckGeom total.toNat = false then .invalid .geometry raw
  else .ok total.toNat

/-- `Resolve(Pend)` (41_length_resolver.md R141 in Fixed mode, R142-R145 in Dynamic mode). -/
def ClRegs.resolve (c : ClRegs) (pend : List Byte) : Resolved :=
  if c.dynamic then
    if pend.length < c.lenOff + c.lw then .need
    else c.checkLength (c.lenTotal pend) (BitVec.ofNat 32 (c.lenRaw pend))
  else .ok c.fixedLength

end Sys2Proof.Machine
end

