-- ==== Sys2Proof/Machine/Ops.lean ====
section
/-! DEFINITION. The operations the meanings share: events and errors (60_exceptions.md), the output FIFO and its
records (30_encoding.md R87-R93), register reads and writes (44_bus_operations.md R230-R232). -/

namespace Sys2Proof.Machine

/-! ## Events and errors -/

/-- An event sets its IRQ_STATUS bit, enabled or not (60_exceptions.md R272, R273). -/
def setIrq (e : IrqSource) (s : State) : State := { s with irqStatus := s.irqStatus ||| e.bit }

/-- `raise OpErr(code)`: LAST_OP_ERR ← code, IRQ_STATUS.OP_ERR ← 1 (60_exceptions.md R268). -/
def raiseOpErr (e : OpError) (s : State) : State := setIrq .opErr { s with lastOpErr := e.code }

/-- `CfgErr(code)`: MODE ← CFG_ERR, CFG_ERR_CODE ← code, IRQ_STATUS.CFG_ERR ← 1 (60_exceptions.md R266). -/
def raiseCfgErr (e : CfgError) (s : State) : State :=
  setIrq .cfgErr { s with mode := .cfgErr, cfgErrCode := e.code }

/-- The host clears the IRQ_STATUS bits it writes as 1, the end of an event's service (44_bus_operations.md R239,
60_exceptions.md R278). -/
def ackIrq (bits : BitVec 7) (s : State) : State := { s with irqStatus := s.irqStatus &&& ~~~bits }

/-! ## Register reads and writes -/

/-- The access returns `v` (44_bus_operations.md R229). -/
def readReturns (v : Word) (s : State) : State := { s with readData := some v }

/-- A write to a CL register: locked while ARMED, else the masked data is stored (44_bus_operations.md R231,
10_state.md R43). -/
def writeCl (r : ClReg) (data : Word) (s : State) : State :=
  if s.mode = .armed then raiseOpErr .cfgLocked s
  else { s with cfg := s.cfg.set r (data &&& r.mask) }

/-- A read of a slice-table register, which is reserved and reads 0 if the build has no such slice
(44_bus_operations.md R230, R232; 10_state.md R42). -/
def readXs (r : ClReg) (s : State) : State :=
  readReturns (if r.present s.hw then s.cfg.get r else 0) s

/-- A write to a slice-table register, which is reserved and ignored if the build has no such slice
(44_bus_operations.md R231, R232; 10_state.md R42). -/
def writeXs (r : ClReg) (data : Word) (s : State) : State :=
  if r.present s.hw then writeCl r data s else s

/-! ## The output FIFO -/

/-- `emit(words)`: the record is appended whole if it fits, else dropped and counted (42_frame_synchronizer.md R181). -/
def emit (words : List Word) (s : State) : State :=
  if words.length ≤ s.hw.outDepth - s.out.length then { s with out := s.out ++ words }
  else setIrq .outOvf { s with cntDropped := s.cntDropped + 1 }

/-- A FRAME record's payload: word j holds frame bytes 4j..4j+3, lanes past the end 0 (30_encoding.md R89). -/
def packWords : List Byte → List Word
  | [] => []
  | [b0] => [ofLanes b0 0 0 0]
  | [b0, b1] => [ofLanes b0 b1 0 0]
  | [b0, b1, b2] => [ofLanes b0 b1 b2 0]
  | b0 :: b1 :: b2 :: b3 :: rest => ofLanes b0 b1 b2 b3 :: packWords rest

/-- LEN in bits [31:16] of a descriptor (30_encoding.md R88). -/
def descLen (n : Nat) : Word := BitVec.ofNat 32 n <<< 16

/-- `FrameRecord(frame)` (42_frame_synchronizer.md R177, 30_encoding.md R89). -/
def frameRecord (frame : List Byte) : List Word := (0x31 ||| descLen frame.length) :: packWords frame

/-- `MismatchRecord(L, c, v)` (42_frame_synchronizer.md R178, 30_encoding.md R90). -/
def mismatchRecord (len : Nat) (computed stored : Word) : List Word := [0x02 ||| descLen len, computed, stored]

/-- `LenInvalidRecord(r, raw)` (42_frame_synchronizer.md R179, 30_encoding.md R91). -/
def lenInvalidRecord (r : LenReason) (raw : Word) : List Word := [0x03 ||| (r.code <<< 8), raw]

/-- `TruncatedRecord(n)` (42_frame_synchronizer.md R180, 30_encoding.md R92). -/
def truncatedRecord (n : Nat) : List Word := [0x04 ||| descLen n]

/-- Outcomes of the operations that can only stop in states no run reaches (log entry 11). -/
def toOutcome : Except Fault State → Host.Outcome State Fault Refusal
  | .ok s => .next s
  | .error f => .fault f

end Sys2Proof.Machine
end

