-- ==== Sys2Proof/Machine/Sync.lean ====
section
/-! DEFINITION. The frame synchronizer (42_frame_synchronizer.md R160-R181). -/

namespace Sys2Proof.Machine

/-- `Match(p)` (42_frame_synchronizer.md R164). -/
def matchAt (hdr pend : List Byte) (p : Nat) : Bool :=
  decide (p + hdr.length ≤ pend.length) && (pend.drop p).take hdr.length == hdr

/-- The least p with `Match(p)` (42_frame_synchronizer.md R164). -/
def firstMatch (hdr pend : List Byte) : Option Nat := (List.range (pend.length + 1)).find? (matchAt hdr pend)

/-- `Resync()`: one byte is dropped uncounted, CNT_RESYNC + 1, IRQ RESYNC, back to SEEKING_HEADER
(42_frame_synchronizer.md R174). -/
def resync (s : State) : State :=
  setIrq .resync { s with pend := s.pend.drop 1, cntResync := s.cntResync + 1, fsm := .seekingHeader }

/-- The bytes dropped from Pend are counted and reported (42_frame_synchronizer.md R176, 43_commands.md R204). -/
def discardTo (pend : List Byte) (k : Nat) (s : State) : State :=
  setIrq .discard { s with pend := pend, cntDiscard := s.cntDiscard + BitVec.ofNat 32 k }

/-- `WindowGuard()` (42_frame_synchronizer.md R176). -/
def windowGuard (s : State) : State :=
  if s.cfg.window < s.pend.length then
    discardTo (s.pend.drop (s.pend.length - s.cfg.window)) (s.pend.length - s.cfg.window) s
  else s

/-- EMIT of the candidate of length `len` (42_frame_synchronizer.md R173). -/
def emitFrame (len : Nat) (s : State) : State :=
  let s' := emit (frameRecord (s.pend.take len)) s
  setIrq .frame { s' with pend := s.pend.drop len, cntFrames := s.cntFrames + 1, fsm := .seekingHeader }

/-- What one pass round the loop of `Run()` does. -/
inductive Pass where
  /-- Need: the loop returns. -/
  | rest (s : State)
  /-- The loop goes round again. -/
  | again (s : State)
  /-- The engine is called outside its requirement, in no reachable state. -/
  | stuck (f : Fault)
deriving DecidableEq, Repr

/-- SEEKING_HEADER (42_frame_synchronizer.md R167, R168). -/
def passSeeking (s : State) : Pass :=
  match firstMatch s.cfg.hdr s.pend with
  | some p => .again { s with pend := s.pend.drop p, fsm := .lengthPending }
  | none => .rest (windowGuard s)

/-- LENGTH_PENDING (42_frame_synchronizer.md R170). -/
def passLength (s : State) : Pass :=
  match s.cfg.resolve s.pend with
  | .need => .rest s
  | .ok len => .again { s with candLen := len, fsm := .bodyPending }
  | .invalid r raw => .again (resync (emit (lenInvalidRecord r raw) s))

/-- BODY_PENDING, VALIDATING, EMIT and RESYNC (42_frame_synchronizer.md R171-R174). -/
def passBody (s : State) : Pass :=
  if s.pend.length < s.candLen then .rest s
  else
    match s.cfg.verify (s.pend.take s.candLen) with
    | none => .stuck .engineOutsideContract
    | some v =>
      if v.ok then .again (emitFrame s.candLen s)
      else .again (resync (emit (mismatchRecord s.candLen v.computed v.stored) s))

/-- One pass round the loop of `Run()` (42_frame_synchronizer.md R163). -/
def pass (s : State) : Pass :=
  match s.fsm with
  | .seekingHeader => passSeeking s
  | .lengthPending => passLength s
  | .bodyPending => passBody s

/-- The loop of `Run()`, at most `fuel` passes round it. -/
def runFuel : Nat → State → Except Fault State
  | 0, _ => .error .runDoesNotReturn
  | fuel + 1, s =>
    match pass s with
    | .rest s' => .ok s'
    | .again s' => runFuel fuel s'
    | .stuck f => .error f

/-- More passes than the loop takes: each pass that does not return removes a byte or lowers the state
(42_frame_synchronizer.md R166). -/
def runBound (s : State) : Nat := 3 * s.pend.length + 3

/-- `Run()` (42_frame_synchronizer.md R163). -/
def run (s : State) : Except Fault State := runFuel (runBound s) s

/-- `PushByte(b)` (44_bus_operations.md R234). -/
def pushByte (b : Byte) (s : State) : Except Fault State :=
  if s.mode = .armed then run { s with pend := s.pend ++ [b] }
  else .ok (raiseOpErr .pushNotArmed s)

/-- Bytes pushed one after the other (44_bus_operations.md R235). -/
def pushBytes : List Byte → State → Except Fault State
  | [], s => .ok s
  | b :: bs, s =>
    match pushByte b s with
    | .ok s' => pushBytes bs s'
    | .error f => .error f

/-- The loop of FLUSH, at most `fuel` passes round it: while a candidate is held, TRUNCATED, Resync, Run
(43_commands.md R204). -/
def flushLoop : Nat → State → Except Fault State
  | 0, s => if s.fsm = .seekingHeader then .ok s else .error .runDoesNotReturn
  | fuel + 1, s =>
    if s.fsm = .seekingHeader then .ok s
    else
      match run (resync (emit (truncatedRecord s.pend.length) s)) with
      | .ok s' => flushLoop fuel s'
      | .error f => .error f

/-- The end of FLUSH: the remainder is discarded and counted (43_commands.md R204). -/
def flushRemainder (s : State) : State :=
  if 0 < s.pend.length then discardTo [] s.pend.length s else { s with pend := [] }

/-- FLUSH (43_commands.md R204); each pass of its loop removes at least one byte. -/
def flush (s : State) : Except Fault State :=
  match flushLoop s.pend.length s with
  | .ok s' => .ok (flushRemainder s')
  | .error f => .error f

/-- `CkPushByte(b)` (44_bus_operations.md R237). -/
def ckPushByte (b : Byte) (s : State) : State :=
  if s.mode ≠ .armed then raiseOpErr .pushNotArmed s
  else if s.span.length = s.hw.ckSpanDepth then raiseOpErr .ckSpanFull { s with ckOvf := true }
  else { s with span := s.span ++ [b] }

end Sys2Proof.Machine
end

