-- ==== Sys2Proof/Machine/Commands.lean ====
section
/-! DEFINITION. The commands of the format CMD (43_commands.md R199-R211), and CMD_WRITE, which runs the one its data
selects (44_bus_operations.md R233). -/

namespace Sys2Proof.Machine

/-! ## ARM's configuration checks (43_commands.md R201) -/

/-- Check 1: TYPE 5-7, or CS15 without CS15_IMPL. -/
def typeUnsupported (hw : HwParams) (c : ClRegs) : Bool :=
  c.family = none || (c.family = some .cs15 && !hw.cs15Impl)

/-- Check 2: the header length. -/
def headerBad (hw : HwParams) (c : ClRegs) : Bool := c.hdrLen = 0 || decide (hw.hdrMax < c.hdrLen)

/-- Check 3: MAX_LEN, also against the longest record. -/
def maxLenBad (hw : HwParams) (c : ClRegs) : Bool :=
  decide (c.maxLength < c.hdrLen) || decide (hw.bufDepth < c.maxLength) ||
  decide (hw.outDepth < max 3 (1 + (c.maxLength + 3) / 4))

/-- Check 4: the sync window. -/
def windowBad (hw : HwParams) (c : ClRegs) : Bool :=
  decide (c.window < c.hdrLen) || decide (hw.bufDepth ≤ c.window)

/-- Check 5: the length rule. -/
def lengthBad (c : ClRegs) : Bool :=
  if c.dynamic then c.lenWidth = 3 || decide (c.maxLength < c.lenOff + c.lw)
  else decide (c.fixedLength < c.hdrLen) || decide (c.maxLength < c.fixedLength)

/-- Check 6: the store width, at least the family's result width (40_checksum_engine.md R119). -/
def storeBad (c : ClRegs) : Bool :=
  c.storeWidth = 3 || c.family.any fun f => decide (c.sw < f.resultBytes)

/-- Check 7: the slices that take part. -/
def slicesBad (hw : HwParams) (c : ClRegs) : Bool :=
  c.family = some .xor16 &&
  (c.xsCount = 0 || decide (hw.nSlices < c.xsCount) ||
    c.usedSlices.any fun x => x.stride = 0 || x.nRel = 0 || decide (hw.nRel < x.nRel))

/-- Check 8: the checksum geometry of the fixed length. -/
def geometryBad (c : ClRegs) : Bool := !c.dynamic && !c.ckGeom c.fixedLength

/-- The first failing check of 43_commands.md R201, if any (60_exceptions.md R267). -/
def armError (hw : HwParams) (c : ClRegs) : Option CfgError :=
  if typeUnsupported hw c then some .unsupportedType
  else if headerBad hw c then some .badHeader
  else if maxLenBad hw c then some .badMaxLen
  else if windowBad hw c then some .badWindow
  else if lengthBad c then some .badLength
  else if storeBad c then some .badStore
  else if slicesBad hw c then some .badSlices
  else if geometryBad c then some .badGeometry
  else none

/-! ## Shared parts -/

/-- The stand-alone port's flags and results cleared, and Span emptied (43_commands.md R202, R206). -/
def clearCk (s : State) : State :=
  { s with span := [], ckValid := false, ckMatch := false, ckGeomErr := false, ckOvf := false,
           ckResult := 0, ckStored := 0 }

/-- A successful ARM (43_commands.md R202). -/
def armSession (s : State) : State :=
  { clearCk s with
    mode := .armed, fsm := .seekingHeader, cfgErrCode := 0, pend := [], out := [],
    cntFrames := 0, cntResync := 0, cntDiscard := 0, cntDropped := 0,
    crcTable := s.cfg.crcTableWords.getD s.crcTable }

/-- A command legal only in ARMED: in another mode it has no effect but OpErr(2) (43_commands.md R199). -/
def whenArmed (s : State) (run : State → Except Fault State) : Except Fault State :=
  if s.mode = .armed then run s else .ok (raiseOpErr .badMode s)

/-- CK_COMPUTE (43_commands.md R207). -/
def ckComputeSpan (s : State) : Except Fault State :=
  if s.cfg.family = some .xor16 ∧ s.cfg.slicesLegal s.span.length = false then
    .ok (setIrq .ckDone { s with ckGeomErr := true, ckValid := false, ckMatch := false, ckResult := 0 })
  else
    match s.cfg.valueSpan s.span with
    | none => .error .engineOutsideContract
    | some v => .ok (setIrq .ckDone { s with ckResult := v, ckValid := true, ckGeomErr := false, ckMatch := false })

/-- CK_VERIFY (43_commands.md R208). -/
def ckVerifySpan (s : State) : Except Fault State :=
  if s.cfg.ckGeom s.span.length = false then
    .ok (setIrq .ckDone
      { s with ckGeomErr := true, ckValid := false, ckMatch := false, ckResult := 0, ckStored := 0 })
  else
    match s.cfg.verify s.span with
    | none => .error .engineOutsideContract
    | some v => .ok (setIrq .ckDone
        { s with ckResult := v.computed, ckStored := v.stored, ckValid := true, ckMatch := v.ok, ckGeomErr := false })

/-- A reserved opcode: in any mode, no effect but OpErr(1) (43_commands.md R209). -/
def reservedOpcode (s : State) : State := raiseOpErr .reservedOpcode s

/-! ## The meanings. The operand is the ignored field data[31:4] (30_encoding.md R86). -/

/-- NOP (43_commands.md R200). -/
def execNop (_ign : BitVec 28) (s : State) : Host.Outcome State Fault Refusal := .next s

/-- ARM (43_commands.md R199, R201, R202). -/
def execArm (_ign : BitVec 28) (s : State) : Host.Outcome State Fault Refusal :=
  if s.mode = .armed then .next (raiseOpErr .badMode s)
  else
    match armError s.hw s.cfg with
    | some e => .next (raiseCfgErr e s)
    | none => .next (armSession s)

/-- DISARM (43_commands.md R203). -/
def execDisarm (_ign : BitVec 28) (s : State) : Host.Outcome State Fault Refusal :=
  .next { s with mode := .idle, fsm := .seekingHeader, pend := [], span := [] }

/-- FLUSH (43_commands.md R199, R204). -/
def execFlush (_ign : BitVec 28) (s : State) : Host.Outcome State Fault Refusal :=
  toOutcome (whenArmed s flush)

/-- CK_INIT (43_commands.md R199, R206). -/
def execCkInit (_ign : BitVec 28) (s : State) : Host.Outcome State Fault Refusal :=
  .next (if s.mode = .armed then clearCk s else raiseOpErr .badMode s)

/-- CK_COMPUTE (43_commands.md R199, R207). -/
def execCkCompute (_ign : BitVec 28) (s : State) : Host.Outcome State Fault Refusal :=
  toOutcome (whenArmed s ckComputeSpan)

/-- CK_VERIFY (43_commands.md R199, R208). -/
def execCkVerify (_ign : BitVec 28) (s : State) : Host.Outcome State Fault Refusal :=
  toOutcome (whenArmed s ckVerifySpan)

/-- Opcode 0x7 (43_commands.md R209). -/
def execReserved7 (_ign : BitVec 28) (s : State) : Host.Outcome State Fault Refusal := .next (reservedOpcode s)

/-- Opcode 0x8 (43_commands.md R209). -/
def execReserved8 (_ign : BitVec 28) (s : State) : Host.Outcome State Fault Refusal := .next (reservedOpcode s)

/-- Opcode 0x9 (43_commands.md R209). -/
def execReserved9 (_ign : BitVec 28) (s : State) : Host.Outcome State Fault Refusal := .next (reservedOpcode s)

/-- Opcode 0xA (43_commands.md R209). -/
def execReservedA (_ign : BitVec 28) (s : State) : Host.Outcome State Fault Refusal := .next (reservedOpcode s)

/-- Opcode 0xB (43_commands.md R209). -/
def execReservedB (_ign : BitVec 28) (s : State) : Host.Outcome State Fault Refusal := .next (reservedOpcode s)

/-- Opcode 0xC (43_commands.md R209). -/
def execReservedC (_ign : BitVec 28) (s : State) : Host.Outcome State Fault Refusal := .next (reservedOpcode s)

/-- Opcode 0xD (43_commands.md R209). -/
def execReservedD (_ign : BitVec 28) (s : State) : Host.Outcome State Fault Refusal := .next (reservedOpcode s)

/-- Opcode 0xE (43_commands.md R209). -/
def execReservedE (_ign : BitVec 28) (s : State) : Host.Outcome State Fault Refusal := .next (reservedOpcode s)

/-- Reset of the block, hardware reset or SOFT_RESET: every piece of its state takes the reset value; the build and the
host's further events are not the block's state (43_commands.md R210, 70_reset_and_hazards.md R290, R291). -/
def resetBlock (s : State) : State := { State.resetFor s.hw with host := s.host }

/-- SOFT_RESET (43_commands.md R210). -/
def execSoftReset (_ign : BitVec 28) (s : State) : Host.Outcome State Fault Refusal := .next (resetBlock s)

/-- CMD_WRITE: runs the command data[3:0] selects (44_bus_operations.md R233, 30_encoding.md R82). -/
def execCmdWrite (data : Word) (s : State) : Host.Outcome State Fault Refusal :=
  let ign := data.extractLsb' 4 28
  match (data.extractLsb' 0 4).toNat with
  | 0x0 => execNop ign s
  | 0x1 => execArm ign s
  | 0x2 => execDisarm ign s
  | 0x3 => execFlush ign s
  | 0x4 => execCkInit ign s
  | 0x5 => execCkCompute ign s
  | 0x6 => execCkVerify ign s
  | 0x7 => execReserved7 ign s
  | 0x8 => execReserved8 ign s
  | 0x9 => execReserved9 ign s
  | 0xA => execReservedA ign s
  | 0xB => execReservedB ign s
  | 0xC => execReservedC ign s
  | 0xD => execReservedD ign s
  | 0xE => execReservedE ign s
  | _ => execSoftReset ign s

end Sys2Proof.Machine
end

