-- ==== Sys2Proof/Machine/DataPorts.lean ====
section
/-! DEFINITION. The data ports, the output port, the interrupt acknowledge and the reserved accesses
(44_bus_operations.md R232, R234-R239). -/

namespace Sys2Proof.Machine

/-- DATA8: pushes data[7:0], ignoring data[31:8] (44_bus_operations.md R234, 30_encoding.md R83). -/
def execData8 (data : Word) (s : State) : Host.Outcome State Fault Refusal :=
  toOutcome (pushByte (lane data 0) s)

/-- DATA32: pushes the four lanes, lane 0 first (44_bus_operations.md R235). -/
def execData32 (data : Word) (s : State) : Host.Outcome State Fault Refusal :=
  toOutcome (pushBytes [lane data 0, lane data 1, lane data 2, lane data 3] s)

/-- OUT_POP: pops and returns the oldest word of Out; 0 and OpErr(6) if there is none (44_bus_operations.md R236). -/
def execOutPop (s : State) : Host.Outcome State Fault Refusal :=
  match s.out with
  | [] => .next (readReturns 0 (raiseOpErr .outEmpty s))
  | v :: rest => .next (readReturns v { s with out := rest })

/-- CK_DATA8: pushes data[7:0] into Span (44_bus_operations.md R237). -/
def execCkData8 (data : Word) (s : State) : Host.Outcome State Fault Refusal :=
  .next (ckPushByte (lane data 0) s)

/-- CK_DATA32: pushes the four lanes into Span, lane 0 first (44_bus_operations.md R238). -/
def execCkData32 (data : Word) (s : State) : Host.Outcome State Fault Refusal :=
  .next (ckPushByte (lane data 3) (ckPushByte (lane data 2) (ckPushByte (lane data 1) (ckPushByte (lane data 0) s))))

/-- IRQ_W1C: clears the IRQ_STATUS bits written as 1, in any mode (44_bus_operations.md R239). -/
def execIrqW1c (data : Word) (s : State) : Host.Outcome State Fault Refusal :=
  .next (ackIrq (data.setWidth 7) s)

/-- RESERVED_ACCESS: a read returns 0 and a write is ignored (44_bus_operations.md R232). The table has rows for the
slice registers of slices 0 to 3 alone; in a build with more slices the offsets 0x0C0-0x0FC of the slices it has are CL
registers (10_state.md R20, R42; log entry 13). -/
def execReservedAccess (op : BusOp) (s : State) : Host.Outcome State Fault Refusal :=
  match op with
  | .read off =>
    .next (match xsRegAt off with
      | some r => readXs r s
      | none => readReturns 0 s)
  | .write off data =>
    .next (match xsRegAt off with
      | some r => writeXs r data s
      | none => s)

end Sys2Proof.Machine
end

