-- ==== Sys2Proof/Machine/RegRead.lean ====
section
/-! DEFINITION. REG_READ: the reads of the readable registers but OUT_DATA, which return the current value and change
nothing (44_bus_operations.md R230). -/

namespace Sys2Proof.Machine

/-- Read of ID (10_state.md R22). -/
def execRdId (s : State) : Host.Outcome State Fault Refusal :=
  .next (readReturns idWord s)

/-- Read of VERSION (10_state.md R22). -/
def execRdVersion (s : State) : Host.Outcome State Fault Refusal :=
  .next (readReturns versionWord s)

/-- Read of HWCFG0 (10_state.md R23). -/
def execRdHwcfg0 (s : State) : Host.Outcome State Fault Refusal :=
  .next (readReturns (hwcfg0Word s.hw) s)

/-- Read of HWCFG1 (10_state.md R24). -/
def execRdHwcfg1 (s : State) : Host.Outcome State Fault Refusal :=
  .next (readReturns (hwcfg1Word s.hw) s)

/-- Read of STATUS (10_state.md R26). -/
def execRdStatus (s : State) : Host.Outcome State Fault Refusal :=
  .next (readReturns (statusWord s) s)

/-- Read of ERR_INFO (10_state.md R27). -/
def execRdErrInfo (s : State) : Host.Outcome State Fault Refusal :=
  .next (readReturns (s.lastOpErr.setWidth 32) s)

/-- Read of IRQ_STATUS (10_state.md R28). -/
def execRdIrqStatus (s : State) : Host.Outcome State Fault Refusal :=
  .next (readReturns (s.irqStatus.setWidth 32) s)

/-- Read of IRQ_ENABLE (10_state.md R29). -/
def execRdIrqEnable (s : State) : Host.Outcome State Fault Refusal :=
  .next (readReturns (s.irqEnable.setWidth 32) s)

/-- Read of FRAME_CFG (10_state.md R30). -/
def execRdFrameCfg (s : State) : Host.Outcome State Fault Refusal :=
  .next (readReturns s.cfg.frameCfg s)

/-- Read of FIXED_LEN (10_state.md R31). -/
def execRdFixedLen (s : State) : Host.Outcome State Fault Refusal :=
  .next (readReturns s.cfg.fixedLen s)

/-- Read of LEN_FIELD (10_state.md R32). -/
def execRdLenField (s : State) : Host.Outcome State Fault Refusal :=
  .next (readReturns s.cfg.lenField s)

/-- Read of MAX_LEN (10_state.md R33). -/
def execRdMaxLen (s : State) : Host.Outcome State Fault Refusal :=
  .next (readReturns s.cfg.maxLen s)

/-- Read of SYNC_WINDOW (10_state.md R34). -/
def execRdSyncWindow (s : State) : Host.Outcome State Fault Refusal :=
  .next (readReturns s.cfg.syncWindow s)

/-- Read of HDR_BYTES0 (10_state.md R35). -/
def execRdHdrBytes0 (s : State) : Host.Outcome State Fault Refusal :=
  .next (readReturns s.cfg.hdrBytes0 s)

/-- Read of HDR_BYTES1 (10_state.md R35). -/
def execRdHdrBytes1 (s : State) : Host.Outcome State Fault Refusal :=
  .next (readReturns s.cfg.hdrBytes1 s)

/-- Read of CK_CFG (10_state.md R36). -/
def execRdCkCfg (s : State) : Host.Outcome State Fault Refusal :=
  .next (readReturns s.cfg.ckCfg s)

/-- Read of CK_RANGE (10_state.md R37). -/
def execRdCkRange (s : State) : Host.Outcome State Fault Refusal :=
  .next (readReturns s.cfg.ckRange s)

/-- Read of CK_STORE_AT (10_state.md R38). -/
def execRdCkStoreAt (s : State) : Host.Outcome State Fault Refusal :=
  .next (readReturns s.cfg.ckStoreAt s)

/-- Read of CRC_POLY (10_state.md R39). -/
def execRdCrcPoly (s : State) : Host.Outcome State Fault Refusal :=
  .next (readReturns s.cfg.crcPoly s)

/-- Read of CRC_INIT (10_state.md R40). -/
def execRdCrcInit (s : State) : Host.Outcome State Fault Refusal :=
  .next (readReturns s.cfg.crcInit s)

/-- Read of CRC_XOROUT (10_state.md R41). -/
def execRdCrcXorout (s : State) : Host.Outcome State Fault Refusal :=
  .next (readReturns s.cfg.crcXorout s)

/-- Read of XS_BOUNDS0 (10_state.md R42). -/
def execRdXsBounds0 (s : State) : Host.Outcome State Fault Refusal :=
  .next (readXs (.xsBounds 0) s)

/-- Read of XS_STEP0 (10_state.md R42). -/
def execRdXsStep0 (s : State) : Host.Outcome State Fault Refusal :=
  .next (readXs (.xsStep 0) s)

/-- Read of XS_RELA0 (10_state.md R42). -/
def execRdXsRela0 (s : State) : Host.Outcome State Fault Refusal :=
  .next (readXs (.xsRelA 0) s)

/-- Read of XS_RELB0 (10_state.md R42). -/
def execRdXsRelb0 (s : State) : Host.Outcome State Fault Refusal :=
  .next (readXs (.xsRelB 0) s)

/-- Read of XS_BOUNDS1 (10_state.md R42). -/
def execRdXsBounds1 (s : State) : Host.Outcome State Fault Refusal :=
  .next (readXs (.xsBounds 1) s)

/-- Read of XS_STEP1 (10_state.md R42). -/
def execRdXsStep1 (s : State) : Host.Outcome State Fault Refusal :=
  .next (readXs (.xsStep 1) s)

/-- Read of XS_RELA1 (10_state.md R42). -/
def execRdXsRela1 (s : State) : Host.Outcome State Fault Refusal :=
  .next (readXs (.xsRelA 1) s)

/-- Read of XS_RELB1 (10_state.md R42). -/
def execRdXsRelb1 (s : State) : Host.Outcome State Fault Refusal :=
  .next (readXs (.xsRelB 1) s)

/-- Read of XS_BOUNDS2 (10_state.md R42). -/
def execRdXsBounds2 (s : State) : Host.Outcome State Fault Refusal :=
  .next (readXs (.xsBounds 2) s)

/-- Read of XS_STEP2 (10_state.md R42). -/
def execRdXsStep2 (s : State) : Host.Outcome State Fault Refusal :=
  .next (readXs (.xsStep 2) s)

/-- Read of XS_RELA2 (10_state.md R42). -/
def execRdXsRela2 (s : State) : Host.Outcome State Fault Refusal :=
  .next (readXs (.xsRelA 2) s)

/-- Read of XS_RELB2 (10_state.md R42). -/
def execRdXsRelb2 (s : State) : Host.Outcome State Fault Refusal :=
  .next (readXs (.xsRelB 2) s)

/-- Read of XS_BOUNDS3 (10_state.md R42). -/
def execRdXsBounds3 (s : State) : Host.Outcome State Fault Refusal :=
  .next (readXs (.xsBounds 3) s)

/-- Read of XS_STEP3 (10_state.md R42). -/
def execRdXsStep3 (s : State) : Host.Outcome State Fault Refusal :=
  .next (readXs (.xsStep 3) s)

/-- Read of XS_RELA3 (10_state.md R42). -/
def execRdXsRela3 (s : State) : Host.Outcome State Fault Refusal :=
  .next (readXs (.xsRelA 3) s)

/-- Read of XS_RELB3 (10_state.md R42). -/
def execRdXsRelb3 (s : State) : Host.Outcome State Fault Refusal :=
  .next (readXs (.xsRelB 3) s)

/-- Read of OUT_LEVEL (10_state.md R45). -/
def execRdOutLevel (s : State) : Host.Outcome State Fault Refusal :=
  .next (readReturns (levelWord s.out.length) s)

/-- Read of PEND_LEVEL (10_state.md R46). -/
def execRdPendLevel (s : State) : Host.Outcome State Fault Refusal :=
  .next (readReturns (levelWord s.pend.length) s)

/-- Read of CNT_FRAMES (10_state.md R47). -/
def execRdCntFrames (s : State) : Host.Outcome State Fault Refusal :=
  .next (readReturns s.cntFrames s)

/-- Read of CNT_RESYNC (10_state.md R47). -/
def execRdCntResync (s : State) : Host.Outcome State Fault Refusal :=
  .next (readReturns s.cntResync s)

/-- Read of CNT_DISCARD (10_state.md R47). -/
def execRdCntDiscard (s : State) : Host.Outcome State Fault Refusal :=
  .next (readReturns s.cntDiscard s)

/-- Read of CNT_DROPPED (10_state.md R47). -/
def execRdCntDropped (s : State) : Host.Outcome State Fault Refusal :=
  .next (readReturns s.cntDropped s)

/-- Read of CK_LEVEL (10_state.md R48). -/
def execRdCkLevel (s : State) : Host.Outcome State Fault Refusal :=
  .next (readReturns (levelWord s.span.length) s)

/-- Read of CK_RESULT (10_state.md R48). -/
def execRdCkResult (s : State) : Host.Outcome State Fault Refusal :=
  .next (readReturns s.ckResult s)

/-- Read of CK_STORED (10_state.md R48). -/
def execRdCkStored (s : State) : Host.Outcome State Fault Refusal :=
  .next (readReturns s.ckStored s)

end Sys2Proof.Machine
end

