-- ==== Sys2Proof/Machine/RegWrite.lean ====
section
/-! DEFINITION. REG_WRITE: the writes of IRQ_ENABLE and of the CL registers (44_bus_operations.md R231). -/

namespace Sys2Proof.Machine

/-- Write of IRQ_ENABLE: data AND 0x7F, in any mode (10_state.md R29). -/
def execWrIrqEnable (data : Word) (s : State) : Host.Outcome State Fault Refusal :=
  .next { s with irqEnable := data.setWidth 7 }

/-- Write of FRAME_CFG (10_state.md R30, R43). -/
def execWrFrameCfg (data : Word) (s : State) : Host.Outcome State Fault Refusal :=
  .next (writeCl .frameCfg data s)

/-- Write of FIXED_LEN (10_state.md R31, R43). -/
def execWrFixedLen (data : Word) (s : State) : Host.Outcome State Fault Refusal :=
  .next (writeCl .fixedLen data s)

/-- Write of LEN_FIELD (10_state.md R32, R43). -/
def execWrLenField (data : Word) (s : State) : Host.Outcome State Fault Refusal :=
  .next (writeCl .lenField data s)

/-- Write of MAX_LEN (10_state.md R33, R43). -/
def execWrMaxLen (data : Word) (s : State) : Host.Outcome State Fault Refusal :=
  .next (writeCl .maxLen data s)

/-- Write of SYNC_WINDOW (10_state.md R34, R43). -/
def execWrSyncWindow (data : Word) (s : State) : Host.Outcome State Fault Refusal :=
  .next (writeCl .syncWindow data s)

/-- Write of HDR_BYTES0 (10_state.md R35, R43). -/
def execWrHdrBytes0 (data : Word) (s : State) : Host.Outcome State Fault Refusal :=
  .next (writeCl .hdrBytes0 data s)

/-- Write of HDR_BYTES1 (10_state.md R35, R43). -/
def execWrHdrBytes1 (data : Word) (s : State) : Host.Outcome State Fault Refusal :=
  .next (writeCl .hdrBytes1 data s)

/-- Write of CK_CFG (10_state.md R36, R43). -/
def execWrCkCfg (data : Word) (s : State) : Host.Outcome State Fault Refusal :=
  .next (writeCl .ckCfg data s)

/-- Write of CK_RANGE (10_state.md R37, R43). -/
def execWrCkRange (data : Word) (s : State) : Host.Outcome State Fault Refusal :=
  .next (writeCl .ckRange data s)

/-- Write of CK_STORE_AT (10_state.md R38, R43). -/
def execWrCkStoreAt (data : Word) (s : State) : Host.Outcome State Fault Refusal :=
  .next (writeCl .ckStoreAt data s)

/-- Write of CRC_POLY (10_state.md R39, R43). -/
def execWrCrcPoly (data : Word) (s : State) : Host.Outcome State Fault Refusal :=
  .next (writeCl .crcPoly data s)

/-- Write of CRC_INIT (10_state.md R40, R43). -/
def execWrCrcInit (data : Word) (s : State) : Host.Outcome State Fault Refusal :=
  .next (writeCl .crcInit data s)

/-- Write of CRC_XOROUT (10_state.md R41, R43). -/
def execWrCrcXorout (data : Word) (s : State) : Host.Outcome State Fault Refusal :=
  .next (writeCl .crcXorout data s)

/-- Write of XS_BOUNDS0 (10_state.md R42, R43). -/
def execWrXsBounds0 (data : Word) (s : State) : Host.Outcome State Fault Refusal :=
  .next (writeXs (.xsBounds 0) data s)

/-- Write of XS_STEP0 (10_state.md R42, R43). -/
def execWrXsStep0 (data : Word) (s : State) : Host.Outcome State Fault Refusal :=
  .next (writeXs (.xsStep 0) data s)

/-- Write of XS_RELA0 (10_state.md R42, R43). -/
def execWrXsRela0 (data : Word) (s : State) : Host.Outcome State Fault Refusal :=
  .next (writeXs (.xsRelA 0) data s)

/-- Write of XS_RELB0 (10_state.md R42, R43). -/
def execWrXsRelb0 (data : Word) (s : State) : Host.Outcome State Fault Refusal :=
  .next (writeXs (.xsRelB 0) data s)

/-- Write of XS_BOUNDS1 (10_state.md R42, R43). -/
def execWrXsBounds1 (data : Word) (s : State) : Host.Outcome State Fault Refusal :=
  .next (writeXs (.xsBounds 1) data s)

/-- Write of XS_STEP1 (10_state.md R42, R43). -/
def execWrXsStep1 (data : Word) (s : State) : Host.Outcome State Fault Refusal :=
  .next (writeXs (.xsStep 1) data s)

/-- Write of XS_RELA1 (10_state.md R42, R43). -/
def execWrXsRela1 (data : Word) (s : State) : Host.Outcome State Fault Refusal :=
  .next (writeXs (.xsRelA 1) data s)

/-- Write of XS_RELB1 (10_state.md R42, R43). -/
def execWrXsRelb1 (data : Word) (s : State) : Host.Outcome State Fault Refusal :=
  .next (writeXs (.xsRelB 1) data s)

/-- Write of XS_BOUNDS2 (10_state.md R42, R43). -/
def execWrXsBounds2 (data : Word) (s : State) : Host.Outcome State Fault Refusal :=
  .next (writeXs (.xsBounds 2) data s)

/-- Write of XS_STEP2 (10_state.md R42, R43). -/
def execWrXsStep2 (data : Word) (s : State) : Host.Outcome State Fault Refusal :=
  .next (writeXs (.xsStep 2) data s)

/-- Write of XS_RELA2 (10_state.md R42, R43). -/
def execWrXsRela2 (data : Word) (s : State) : Host.Outcome State Fault Refusal :=
  .next (writeXs (.xsRelA 2) data s)

/-- Write of XS_RELB2 (10_state.md R42, R43). -/
def execWrXsRelb2 (data : Word) (s : State) : Host.Outcome State Fault Refusal :=
  .next (writeXs (.xsRelB 2) data s)

/-- Write of XS_BOUNDS3 (10_state.md R42, R43). -/
def execWrXsBounds3 (data : Word) (s : State) : Host.Outcome State Fault Refusal :=
  .next (writeXs (.xsBounds 3) data s)

/-- Write of XS_STEP3 (10_state.md R42, R43). -/
def execWrXsStep3 (data : Word) (s : State) : Host.Outcome State Fault Refusal :=
  .next (writeXs (.xsStep 3) data s)

/-- Write of XS_RELA3 (10_state.md R42, R43). -/
def execWrXsRela3 (data : Word) (s : State) : Host.Outcome State Fault Refusal :=
  .next (writeXs (.xsRelA 3) data s)

/-- Write of XS_RELB3 (10_state.md R42, R43). -/
def execWrXsRelb3 (data : Word) (s : State) : Host.Outcome State Fault Refusal :=
  .next (writeXs (.xsRelB 3) data s)

end Sys2Proof.Machine
end

