-- ==== Sys2Proof/Machine/Dispatch.lean ====
section
/-! DEFINITION. The dispatch: one arm per instruction. -/

namespace Sys2Proof.Machine

def exec (i : Instr) (s : State) : Host.Outcome State Fault Refusal :=
  match i with
  | .nop ign => Sys2Proof.Machine.execNop ign s
  | .arm ign => Sys2Proof.Machine.execArm ign s
  | .disarm ign => Sys2Proof.Machine.execDisarm ign s
  | .flush ign => Sys2Proof.Machine.execFlush ign s
  | .ckInit ign => Sys2Proof.Machine.execCkInit ign s
  | .ckCompute ign => Sys2Proof.Machine.execCkCompute ign s
  | .ckVerify ign => Sys2Proof.Machine.execCkVerify ign s
  | .reserved7 ign => Sys2Proof.Machine.execReserved7 ign s
  | .reserved8 ign => Sys2Proof.Machine.execReserved8 ign s
  | .reserved9 ign => Sys2Proof.Machine.execReserved9 ign s
  | .reservedA ign => Sys2Proof.Machine.execReservedA ign s
  | .reservedB ign => Sys2Proof.Machine.execReservedB ign s
  | .reservedC ign => Sys2Proof.Machine.execReservedC ign s
  | .reservedD ign => Sys2Proof.Machine.execReservedD ign s
  | .reservedE ign => Sys2Proof.Machine.execReservedE ign s
  | .softReset ign => Sys2Proof.Machine.execSoftReset ign s
  | .rdId => Sys2Proof.Machine.execRdId s
  | .rdVersion => Sys2Proof.Machine.execRdVersion s
  | .rdHwcfg0 => Sys2Proof.Machine.execRdHwcfg0 s
  | .rdHwcfg1 => Sys2Proof.Machine.execRdHwcfg1 s
  | .rdStatus => Sys2Proof.Machine.execRdStatus s
  | .rdErrInfo => Sys2Proof.Machine.execRdErrInfo s
  | .rdIrqStatus => Sys2Proof.Machine.execRdIrqStatus s
  | .rdIrqEnable => Sys2Proof.Machine.execRdIrqEnable s
  | .rdFrameCfg => Sys2Proof.Machine.execRdFrameCfg s
  | .rdFixedLen => Sys2Proof.Machine.execRdFixedLen s
  | .rdLenField => Sys2Proof.Machine.execRdLenField s
  | .rdMaxLen => Sys2Proof.Machine.execRdMaxLen s
  | .rdSyncWindow => Sys2Proof.Machine.execRdSyncWindow s
  | .rdHdrBytes0 => Sys2Proof.Machine.execRdHdrBytes0 s
  | .rdHdrBytes1 => Sys2Proof.Machine.execRdHdrBytes1 s
  | .rdCkCfg => Sys2Proof.Machine.execRdCkCfg s
  | .rdCkRange => Sys2Proof.Machine.execRdCkRange s
  | .rdCkStoreAt => Sys2Proof.Machine.execRdCkStoreAt s
  | .rdCrcPoly => Sys2Proof.Machine.execRdCrcPoly s
  | .rdCrcInit => Sys2Proof.Machine.execRdCrcInit s
  | .rdCrcXorout => Sys2Proof.Machine.execRdCrcXorout s
  | .rdXsBounds0 => Sys2Proof.Machine.execRdXsBounds0 s
  | .rdXsStep0 => Sys2Proof.Machine.execRdXsStep0 s
  | .rdXsRela0 => Sys2Proof.Machine.execRdXsRela0 s
  | .rdXsRelb0 => Sys2Proof.Machine.execRdXsRelb0 s
  | .rdXsBounds1 => Sys2Proof.Machine.execRdXsBounds1 s
  | .rdXsStep1 => Sys2Proof.Machine.execRdXsStep1 s
  | .rdXsRela1 => Sys2Proof.Machine.execRdXsRela1 s
  | .rdXsRelb1 => Sys2Proof.Machine.execRdXsRelb1 s
  | .rdXsBounds2 => Sys2Proof.Machine.execRdXsBounds2 s
  | .rdXsStep2 => Sys2Proof.Machine.execRdXsStep2 s
  | .rdXsRela2 => Sys2Proof.Machine.execRdXsRela2 s
  | .rdXsRelb2 => Sys2Proof.Machine.execRdXsRelb2 s
  | .rdXsBounds3 => Sys2Proof.Machine.execRdXsBounds3 s
  | .rdXsStep3 => Sys2Proof.Machine.execRdXsStep3 s
  | .rdXsRela3 => Sys2Proof.Machine.execRdXsRela3 s
  | .rdXsRelb3 => Sys2Proof.Machine.execRdXsRelb3 s
  | .rdOutLevel => Sys2Proof.Machine.execRdOutLevel s
  | .rdPendLevel => Sys2Proof.Machine.execRdPendLevel s
  | .rdCntFrames => Sys2Proof.Machine.execRdCntFrames s
  | .rdCntResync => Sys2Proof.Machine.execRdCntResync s
  | .rdCntDiscard => Sys2Proof.Machine.execRdCntDiscard s
  | .rdCntDropped => Sys2Proof.Machine.execRdCntDropped s
  | .rdCkLevel => Sys2Proof.Machine.execRdCkLevel s
  | .rdCkResult => Sys2Proof.Machine.execRdCkResult s
  | .rdCkStored => Sys2Proof.Machine.execRdCkStored s
  | .wrIrqEnable data => Sys2Proof.Machine.execWrIrqEnable data s
  | .wrFrameCfg data => Sys2Proof.Machine.execWrFrameCfg data s
  | .wrFixedLen data => Sys2Proof.Machine.execWrFixedLen data s
  | .wrLenField data => Sys2Proof.Machine.execWrLenField data s
  | .wrMaxLen data => Sys2Proof.Machine.execWrMaxLen data s
  | .wrSyncWindow data => Sys2Proof.Machine.execWrSyncWindow data s
  | .wrHdrBytes0 data => Sys2Proof.Machine.execWrHdrBytes0 data s
  | .wrHdrBytes1 data => Sys2Proof.Machine.execWrHdrBytes1 data s
  | .wrCkCfg data => Sys2Proof.Machine.execWrCkCfg data s
  | .wrCkRange data => Sys2Proof.Machine.execWrCkRange data s
  | .wrCkStoreAt data => Sys2Proof.Machine.execWrCkStoreAt data s
  | .wrCrcPoly data => Sys2Proof.Machine.execWrCrcPoly data s
  | .wrCrcInit data => Sys2Proof.Machine.execWrCrcInit data s
  | .wrCrcXorout data => Sys2Proof.Machine.execWrCrcXorout data s
  | .wrXsBounds0 data => Sys2Proof.Machine.execWrXsBounds0 data s
  | .wrXsStep0 data => Sys2Proof.Machine.execWrXsStep0 data s
  | .wrXsRela0 data => Sys2Proof.Machine.execWrXsRela0 data s
  | .wrXsRelb0 data => Sys2Proof.Machine.execWrXsRelb0 data s
  | .wrXsBounds1 data => Sys2Proof.Machine.execWrXsBounds1 data s
  | .wrXsStep1 data => Sys2Proof.Machine.execWrXsStep1 data s
  | .wrXsRela1 data => Sys2Proof.Machine.execWrXsRela1 data s
  | .wrXsRelb1 data => Sys2Proof.Machine.execWrXsRelb1 data s
  | .wrXsBounds2 data => Sys2Proof.Machine.execWrXsBounds2 data s
  | .wrXsStep2 data => Sys2Proof.Machine.execWrXsStep2 data s
  | .wrXsRela2 data => Sys2Proof.Machine.execWrXsRela2 data s
  | .wrXsRelb2 data => Sys2Proof.Machine.execWrXsRelb2 data s
  | .wrXsBounds3 data => Sys2Proof.Machine.execWrXsBounds3 data s
  | .wrXsStep3 data => Sys2Proof.Machine.execWrXsStep3 data s
  | .wrXsRela3 data => Sys2Proof.Machine.execWrXsRela3 data s
  | .wrXsRelb3 data => Sys2Proof.Machine.execWrXsRelb3 data s
  | .cmdWrite data => Sys2Proof.Machine.execCmdWrite data s
  | .data8 data => Sys2Proof.Machine.execData8 data s
  | .data32 data => Sys2Proof.Machine.execData32 data s
  | .outPop => Sys2Proof.Machine.execOutPop s
  | .ckData8 data => Sys2Proof.Machine.execCkData8 data s
  | .ckData32 data => Sys2Proof.Machine.execCkData32 data s
  | .irqW1c data => Sys2Proof.Machine.execIrqW1c data s
  | .reservedAccess op => Sys2Proof.Machine.execReservedAccess op s

end Sys2Proof.Machine
end

