-- ==== Sys2Proof/Machine/Step.lean ====
section
/-! DEFINITION. One step: the next event of the host reaches the block (44_bus_operations.md R229). -/

namespace Sys2Proof.Machine

/-- The state in which an access runs: the event is taken from the queue, and nothing is returned yet. -/
def State.accepting (s : State) (rest : List HostEvent) : State := { s with host := rest, readData := none }

/-- One transition. A host access runs the instruction it selects or is refused (44_bus_operations.md R229, 00_scope.md
R19); hardware reset resets the block (70_reset_and_hazards.md R290); with no event nothing happens, since the block has
no autonomous step (00_scope.md R7, 60_exceptions.md R285). -/
def step (s : State) : Host.Outcome State Fault Refusal :=
  match s.host with
  | [] => .next s
  | .hwReset :: rest => .next (resetBlock (s.accepting rest))
  | .access a :: rest =>
    match decodeAccess a with
    | .ok i => exec i (s.accepting rest)
    | .error why => .refused (.hostProtocol why)

/-- The state whose next event is the access that carries a word of spec/opcode_table.json (log entries 1 and 12). -/
def State.withFetchWord (s : State) (nbits w : Nat) : State :=
  { s with host := .access (tableAccess nbits w) :: s.host }

end Sys2Proof.Machine
end

