-- ==== Sys2Proof/Machine/HostSyntax.lean ====
section
/-! DEFINITION. Host sequences: the pseudo-instructions and their expansions (30_encoding.md R95, R96) and the listing
form of a bus operation (R97). -/

namespace Sys2Proof.Machine

/-- The pseudo-instructions of 30_encoding.md R96, and the two plain operations of R95. -/
inductive HostOp where
  | wr (off : BitVec 12) (data : Word)
  | rd (off : BitVec 12)
  /-- `CMD <MNEMONIC>` -/
  | cmd (opcode : BitVec 4)
  /-- `PUSH b0, b1, ..., bk` -/
  | push (bytes : List Byte)
  /-- `PUSHW b0, b1, b2, b3` -/
  | pushw (b0 b1 b2 b3 : Byte)
  /-- `CKPUSH b0, ..., bk` -/
  | ckpush (bytes : List Byte)
  /-- `CKPUSHW b0, b1, b2, b3` -/
  | ckpushw (b0 b1 b2 b3 : Byte)
  /-- `POP -> v` -/
  | pop
  /-- `ACK <mask>` -/
  | ack (bits : Word)
deriving DecidableEq, Repr

/-- The exact expansions (30_encoding.md R96). -/
def HostOp.expand : HostOp → List BusOp
  | .wr off data => [.write off data]
  | .rd off => [.read off]
  | .cmd opcode => [.write 0x010 (opcode.setWidth 32)]
  | .push bytes => bytes.map fun b => .write 0x100 (b.setWidth 32)
  | .pushw b0 b1 b2 b3 => [.write 0x104 (ofLanes b0 b1 b2 b3)]
  | .ckpush bytes => bytes.map fun b => .write 0x140 (b.setWidth 32)
  | .ckpushw b0 b1 b2 b3 => [.write 0x144 (ofLanes b0 b1 b2 b3)]
  | .pop => [.read 0x110]
  | .ack bits => [.write 0x01C bits]

/-- The same host operation with a four-byte push written as four one-byte pushes (44_bus_operations.md R235, R238). -/
def HostOp.bytewise : HostOp → HostOp
  | .pushw b0 b1 b2 b3 => .push [b0, b1, b2, b3]
  | .ckpushw b0 b1 b2 b3 => .ckpush [b0, b1, b2, b3]
  | op => op

/-- The events a host program sends to the block, in order (00_scope.md R7). -/
def hostEvents (program : List HostOp) : List HostEvent :=
  (program.flatMap HostOp.expand).map fun op => .access op.toAccess

/-- One upper-case hexadecimal digit. -/
def hexDigit (n : Nat) : Char := if n < 10 then Char.ofNat (48 + n) else Char.ofNat (55 + n)

/-- The lowest `k` hexadecimal digits of a number, the most significant first. -/
def hexDigits : Nat → Nat → List Char
  | 0, _ => []
  | k + 1, n => hexDigits k (n / 16) ++ [hexDigit (n % 16)]

/-- `<dir> <offset as 3 hex digits> <data as 8 hex digits>`; for a read the data is the value returned
(30_encoding.md R97). -/
def BusOp.listing (returned : Word) : BusOp → String
  | .read off => String.ofList ("R ".toList ++ hexDigits 3 off.toNat ++ " ".toList ++ hexDigits 8 returned.toNat)
  | .write off data => String.ofList ("W ".toList ++ hexDigits 3 off.toNat ++ " ".toList ++ hexDigits 8 data.toNat)

end Sys2Proof.Machine
end

