-- ==== Sys2Proof/Safety.lean ====
section
/-! DEFINITION. The terms the statements use: the invariant of the block (10_state.md R58 and the ranges of the state's
parts), and `Run()` as a relation, written from 42_frame_synchronizer.md R163 without a bound on its passes. -/

namespace Sys2Proof.Machine

/-! ## The invariant -/

/-- SEEKING_HEADER at rest: at most W bytes and no header among them (10_state.md R58). -/
abbrev RestSeeking (s : State) : Prop :=
  s.pend.length ≤ s.cfg.window ∧ firstMatch s.cfg.hdr s.pend = none

/-- LENGTH_PENDING at rest: Dynamic mode, a header at the front, the length field incomplete (10_state.md R58). -/
abbrev RestLength (s : State) : Prop :=
  s.cfg.dynamic = true ∧ matchAt s.cfg.hdr s.pend 0 = true ∧ s.pend.length < s.cfg.lenOff + s.cfg.lw

/-- A candidate's length, as Resolve or ARM has checked it: CkGeom(CandLen) always holds
(42_frame_synchronizer.md R172, 10_state.md R50). -/
abbrev CandidateOk (s : State) : Prop :=
  s.cfg.hdrLen ≤ s.candLen ∧ s.candLen ≤ s.cfg.maxLength ∧ s.cfg.ckGeom s.candLen = true

/-- BODY_PENDING at rest: a header at the front, the candidate incomplete (10_state.md R58). -/
abbrev RestBody (s : State) : Prop :=
  matchAt s.cfg.hdr s.pend 0 = true ∧ s.pend.length < s.candLen ∧ CandidateOk s

/-- The resting state of an armed block (10_state.md R58). -/
structure Resting (s : State) : Prop where
  seeking : s.fsm = .seekingHeader → RestSeeking s
  lengthPending : s.fsm = .lengthPending → RestLength s
  bodyPending : s.fsm = .bodyPending → RestBody s

/-- What holds of every state between accesses. -/
structure Inv (s : State) : Prop where
  /-- The build is legal (00_scope.md R9). -/
  hwLegal : s.hw.Legal
  /-- Undefined bits read 0 (10_state.md R21). -/
  masked : ∀ r : ClReg, s.cfg.get r &&& r.mask = s.cfg.get r
  /-- A slice the build lacks has no registers (10_state.md R42). -/
  absent : ∀ r : ClReg, r.present s.hw = false → s.cfg.get r = 0
  /-- Out holds at most OUT_DEPTH words (10_state.md R52). -/
  outFits : s.out.length ≤ s.hw.outDepth
  /-- Span holds at most CK_SPAN_DEPTH bytes (10_state.md R53). -/
  spanFits : s.span.length ≤ s.hw.ckSpanDepth
  /-- The codes the block produces (60_exceptions.md R266, R268). -/
  codes : s.cfgErrCode.toNat ≤ 8 ∧ s.lastOpErr.toNat ≤ 6
  /-- A match is a valid result, and a geometry failure is none (43_commands.md R207, R208). -/
  ckFlags : (s.ckMatch = true → s.ckValid = true) ∧ ¬(s.ckValid = true ∧ s.ckGeomErr = true)
  /-- CrcTable has 256 entries (10_state.md R54). -/
  tableSize : s.crcTable.length = 256
  /-- While MODE ≠ ARMED, Pend is empty (10_state.md R58), and so is Span. -/
  unarmed : s.mode ≠ .armed → s.fsm = .seekingHeader ∧ s.pend = [] ∧ s.span = []
  /-- CFG_ERR follows a failed ARM, whose code is kept (60_exceptions.md R266). -/
  failed : s.mode = .cfgErr → s.cfgErrCode ≠ 0
  /-- A session runs with a configuration that passed ARM's checks (10_state.md R43, 43_commands.md R201). -/
  config : s.mode = .armed → armError s.hw s.cfg = none ∧ s.cfgErrCode = 0
  /-- The resting invariant (10_state.md R58). -/
  resting : s.mode = .armed → Resting s
  /-- CrcTable is the table of the locked CRC_POLY (10_state.md R54, 43_commands.md R202). -/
  table : s.mode = .armed → ∀ ws, s.cfg.crcTableWords = some ws → s.crcTable = ws

/-- The step does not stop with a fault: the block never stops (60_exceptions.md R260). -/
def NoFault (o : Host.Outcome State Fault Refusal) : Prop := ∀ f, o ≠ .fault f

/-! ## `Run()` as a relation -/

/-- `Match(p)` byte by byte: `0 ≤ p`, `p + H ≤ len(Pend)` and `Pend[p + k] = Hdr[k]` for every k < H
(42_frame_synchronizer.md R164). -/
def Matches (hdr pend : List Byte) (p : Nat) : Prop :=
  p + hdr.length ≤ pend.length ∧ ∀ k, k < hdr.length → pend[p + k]? = hdr[k]?

/-- `RunsTo s t`: `Run()` started in s returns in t (42_frame_synchronizer.md R163). -/
inductive RunsTo : State → State → Prop where
  /-- No match, and Pend within the window (R167, R176). -/
  | seekKeep (s : State) (hf : s.fsm = .seekingHeader) (hm : ∀ p, ¬Matches s.cfg.hdr s.pend p)
      (hw : s.pend.length ≤ s.cfg.window) : RunsTo s s
  /-- No match, and the window guard drops the oldest bytes (R167, R176). -/
  | seekGuard (s : State) (hf : s.fsm = .seekingHeader) (hm : ∀ p, ¬Matches s.cfg.hdr s.pend p) (k : Nat)
      (hk : s.pend.length = s.cfg.window + k) (hpos : 0 < k) :
      RunsTo s { s with
        pend := s.pend.drop k, cntDiscard := s.cntDiscard + BitVec.ofNat 32 k, irqStatus := s.irqStatus ||| 0x04 }
  /-- The least match becomes the candidate; the bytes before it are consumed silently (R168). -/
  | seekFound (s t : State) (p : Nat) (hf : s.fsm = .seekingHeader) (hm : Matches s.cfg.hdr s.pend p)
      (hleast : ∀ q, q < p → ¬Matches s.cfg.hdr s.pend q)
      (hrun : RunsTo { s with pend := s.pend.drop p, fsm := .lengthPending } t) : RunsTo s t
  /-- The length field is incomplete (R170). -/
  | lengthNeed (s : State) (hf : s.fsm = .lengthPending) (hr : s.cfg.resolve s.pend = .need) : RunsTo s s
  /-- The length is resolved (R170). -/
  | lengthOk (s t : State) (len : Nat) (hf : s.fsm = .lengthPending) (hr : s.cfg.resolve s.pend = .ok len)
      (hrun : RunsTo { s with candLen := len, fsm := .bodyPending } t) : RunsTo s t
  /-- The length is invalid: a LEN_INVALID record, then RESYNC (R170, R174, R179). -/
  | lengthInvalid (s t : State) (r : LenReason) (raw : Word) (hf : s.fsm = .lengthPending)
      (hr : s.cfg.resolve s.pend = .invalid r raw)
      (hrun : RunsTo (resync (emit (lenInvalidRecord r raw) s)) t) : RunsTo s t
  /-- The candidate is incomplete (R171). -/
  | bodyNeed (s : State) (hf : s.fsm = .bodyPending) (hl : s.pend.length < s.candLen) : RunsTo s s
  /-- The candidate verifies: EMIT (R172, R173). -/
  | bodyEmit (s t : State) (v : Verdict) (hf : s.fsm = .bodyPending) (hl : s.candLen ≤ s.pend.length)
      (hv : s.cfg.verify (s.pend.take s.candLen) = some v) (hok : v.ok = true)
      (hrun : RunsTo (emitFrame s.candLen s) t) : RunsTo s t
  /-- The candidate fails: a MISMATCH record, then RESYNC (R172, R174, R178). -/
  | bodyMismatch (s t : State) (v : Verdict) (hf : s.fsm = .bodyPending) (hl : s.candLen ≤ s.pend.length)
      (hv : s.cfg.verify (s.pend.take s.candLen) = some v) (hok : v.ok = false)
      (hrun : RunsTo (resync (emit (mismatchRecord s.candLen v.computed v.stored) s)) t) : RunsTo s t

/-- `FlushesTo s t`: the loop of FLUSH started in s ends in t (43_commands.md R204): while a candidate is held, a
TRUNCATED record, Resync and Run. -/
inductive FlushesTo : State → State → Prop where
  /-- No candidate is held. -/
  | done (s : State) (hf : s.fsm = .seekingHeader) : FlushesTo s s
  /-- The held candidate is reported and abandoned, and the rest of Pend is parsed. -/
  | truncate (s t u : State) (hf : s.fsm ≠ .seekingHeader)
      (hrun : RunsTo (resync (emit (truncatedRecord s.pend.length) s)) t) (hrest : FlushesTo t u) : FlushesTo s u

/-! ## Terms of single statements -/

/-- Configuration check k of 43_commands.md R201 fails, written from the rule's own inequalities. -/
def ArmCheckFails (hw : HwParams) (c : ClRegs) : Nat → Prop
  | 1 => 5 ≤ c.ckType.toNat ∨ (c.ckType.toNat = 1 ∧ hw.cs15Impl = false)
  | 2 => c.hdrLen = 0 ∨ hw.hdrMax < c.hdrLen
  | 3 => c.maxLength < c.hdrLen ∨ hw.bufDepth < c.maxLength ∨ hw.outDepth < max 3 (1 + (c.maxLength + 3) / 4)
  | 4 => c.window < c.hdrLen ∨ hw.bufDepth ≤ c.window
  | 5 => (c.dynamic = true ∧ (c.lenWidth = 3 ∨ c.maxLength < c.lenOff + c.lw)) ∨
      (c.dynamic = false ∧ (c.fixedLength < c.hdrLen ∨ c.maxLength < c.fixedLength))
  | 6 => c.storeWidth = 3 ∨ ∃ f, c.family = some f ∧ c.sw < f.resultBytes
  | 7 => c.ckType.toNat = 2 ∧ (c.xsCount = 0 ∨ hw.nSlices < c.xsCount ∨
      ∃ (i : Nat) (x : XsSlice), i < c.xsCount ∧ c.xs.toList[i]? = some x ∧
        (x.stride = 0 ∨ x.nRel = 0 ∨ hw.nRel < x.nRel))
  | 8 => c.dynamic = false ∧ c.ckGeom c.fixedLength = false
  | _ => False

/-- Every piece of state the spec gives a reset value has it (10_state.md R57). -/
structure ResetValues (s : State) : Prop where
  mode : s.mode = .idle
  fsm : s.fsm = .seekingHeader
  buffers : s.pend = [] ∧ s.out = [] ∧ s.span = []
  config : ∀ r : ClReg, s.cfg.get r = 0
  interrupts : s.irqStatus = 0 ∧ s.irqEnable = 0 ∧ s.lastOpErr = 0
  flags : s.ckValid = false ∧ s.ckMatch = false ∧ s.ckGeomErr = false ∧ s.ckOvf = false ∧ s.cfgErrCode = 0
  status : statusWord s = 0x00001000
  counters : s.cntFrames = 0 ∧ s.cntResync = 0 ∧ s.cntDiscard = 0 ∧ s.cntDropped = 0
  results : s.ckResult = 0 ∧ s.ckStored = 0
  quiet : irq s = false

/-- The bytes of a value in the configured store format: sw bytes, little-endian or big-endian (10_state.md R36). -/
def ClRegs.storeBytes (c : ClRegs) (v : Word) : List Byte :=
  let le := (List.range c.sw).map fun k => BitVec.ofNat 8 (v.toNat / 256 ^ k)
  if c.storeBe then le.reverse else le

/-- The frame with a value written into its store field (40_checksum_engine.md R121). -/
def ClRegs.withStored (c : ClRegs) (frame : List Byte) (v : Word) : List Byte :=
  let s := (c.storePos frame.length).toNat
  frame.take s ++ c.storeBytes v ++ frame.drop (s + c.sw)

/-- A byte position lies in the store field of a frame of length n (40_checksum_engine.md R121). -/
def ClRegs.inStore (c : ClRegs) (n : Nat) (q : Int) : Prop := c.storePos n ≤ q ∧ q < c.storePos n + c.sw

/-- The configuration with CRC_METHOD set to `table` (10_state.md R36). -/
def ClRegs.withMethod (c : ClRegs) (table : Bool) : ClRegs :=
  { c with ckCfg := if table then c.ckCfg ||| 0x00001000 else c.ckCfg &&& 0xFFFFEFFF }

/-- The state a run ends in, if it ends in one. -/
def nextState : Host.Outcome State Fault Refusal → Option State
  | .next s => some s
  | .fault _ => none
  | .refused _ => none

/-- The host program of 42_frame_synchronizer.md R187: the configuration (MAX_LEN = 4, the least it allows), ARM, and the
six bytes pushed one at a time. -/
def workedProgram : List HostOp :=
  [.wr 0x030 1, .wr 0x034 4, .wr 0x03C 4, .wr 0x040 8, .wr 0x044 0x7E, .wr 0x054 0xFFFF0000, .wr 0x058 0xFFFF,
   .cmd 1, .push [0x00, 0x7E, 0x7E, 0x01, 0x02, 0x81]]

/-- A build with the reference parameters, right after reset, with a program to receive. -/
def startWith (program : List HostOp) : State :=
  { State.resetFor Config.reference with host := hostEvents program }

end Sys2Proof.Machine
end

