-- ==== Sys2Proof/Certificates/Slice0/Obligations.lean ====
section
/-! DEFINITION. The statements for the provers: what the rules of spec/ say the block does. In each, a next state is
written as the state before it with the fields that change, so that every other field is unchanged. -/

open Sys2Proof Sys2Proof.Machine

/-! ## Encoding and decoding -/

/-- 30_encoding.md R81, R82: decoding the encoding of a well-formed instruction gives it back. -/
def Obligations.DecodeEncodeRoundTrip : Prop :=
  ∀ i : Instr, i.wellFormed = true → decode (encode i) = .ok i

/-- 30_encoding.md R94, first two points: every CMD data word, and every aligned bus operation, is the encoding of
exactly one instruction, the one the decoder answers. -/
def Obligations.EveryEncodedObjectIsOneInstruction : Prop :=
  ∀ e : Encoded, (∀ op, e = .bus op → op.offset.extractLsb' 0 2 = 0#2) →
    ∃ i, decode e = .ok i ∧ i.wellFormed = true ∧ encode i = e ∧
      ∀ j, j.wellFormed = true → encode j = e → j = i

/-- 30_encoding.md R81, R82: words written out from the two tables decode to their rows. The clauses through
`decodeTableWord` are the model's choice (log entry 12, DESIGN CHOICE): a word of the opcode table holds no direction, so
its width selects the format (8 bits a command, 16 bits a bus operation), an offset that has a read row (0x014, 0x110) is
taken as the read, and an offset that has a write row alone (0x100, 0x010) as the write with data 0. The clauses through
`decode` carry their format and direction and rest on the two tables alone. -/
def Obligations.TableWordsDecode : Prop :=
  decodeTableWord 8 0x00 = some (.nop 0) ∧ decodeTableWord 8 0x01 = some (.arm 0) ∧
  decodeTableWord 8 0x03 = some (.flush 0) ∧ decodeTableWord 8 0x0F = some (.softReset 0) ∧
  decode (.cmd 0xFFFFFFF0) = .ok (.nop 0xFFFFFFF) ∧ decode (.cmd 0x0000000A) = .ok (.reservedA 0) ∧
  decodeTableWord 16 0x014 = some .rdStatus ∧ decodeTableWord 16 0x110 = some .outPop ∧
  decodeTableWord 16 0x100 = some (.data8 0) ∧ decodeTableWord 16 0x010 = some (.cmdWrite 0) ∧
  decode (.bus (.write 0x01C 0x7F)) = .ok (.irqW1c 0x7F) ∧ decode (.bus (.read 0x01C)) = .ok .rdIrqStatus ∧
  decode (.bus (.write 0x0B4 0xABC)) = .ok (.wrXsStep3 0xABC) ∧
  decode (.bus (.read 0x024)) = .ok (.reservedAccess (.read 0x024)) ∧
  decode (.bus (.read 0x102)) = .error .misaligned

/-- 00_scope.md R19 with 20_memory.md R64 and 00_scope.md R9: the step refuses an access exactly when it is not 32 bits
wide, outside the 4 KiB window at BASE, or at an offset that is not a multiple of 4. -/
def Obligations.ProtocolViolationsAreRefused : Prop :=
  (∀ (s : State) (a : Access) (rest : List HostEvent), s.host = .access a :: rest →
    ((∃ why, step s = .refused why) ↔ (a.bytes ≠ 4 ∨ a.off < 0 ∨ 0xFFF < a.off ∨ a.off % 4 ≠ 0))) ∧
  (∀ (s : State) (dir : Dir) (bytes addr : Nat) (data : Word) (rest : List HostEvent),
    s.hw.Legal → s.host = .access (Access.atBus s.hw.base dir bytes addr data) :: rest →
    ((∃ why, step s = .refused why) ↔
      (bytes ≠ 4 ∨ addr < s.hw.base ∨ s.hw.base + 0xFFF < addr ∨ addr % 4 ≠ 0)))

/-! ## The step -/

/-- 44_bus_operations.md R229: a step runs the instruction that the next host access selects, in the state that has
taken the access from the host's queue and has returned nothing yet (log entries 1 and 2). -/
def Obligations.StepRunsDecodedAccess : Prop :=
  ∀ (s : State) (rest : List HostEvent) (i : Instr),
    (∀ a, s.host = .access a :: rest → decodeAccess a = .ok i →
      step s = exec i { s with host := rest, readData := none }) ∧
    (∀ op, i.wellFormed = true → encode i = .bus op → s.host = .access op.toAccess :: rest →
      step s = exec i { s with host := rest, readData := none }) ∧
    (∀ d, encode i = .cmd d → s.host = .access (BusOp.toAccess (.write 0x010 d)) :: rest →
      step s = exec i { s with host := rest, readData := none })

/-- 44_bus_operations.md R233: a write to CMD runs the command that data[3:0] selects; bits [31:4] are ignored. -/
def Obligations.CommandWriteRunsSelectedCommand : Prop :=
  ∀ (data : Word) (s : State),
    (∀ i, encode i = .cmd data → exec (.cmdWrite data) s = exec i s) ∧
    (∀ data' : Word, data'.extractLsb' 0 4 = data.extractLsb' 0 4 →
      exec (.cmdWrite data') s = exec (.cmdWrite data) s)

/-- 44_bus_operations.md R229, 60_exceptions.md R285: with no access and no reset the block keeps its state. The queue of
host events is the model's own (log entry 1). -/
def Obligations.NoAutonomousStep : Prop := ∀ s : State, s.host = [] → step s = .next s

/-- 70_reset_and_hazards.md R291: hardware reset has exactly the effect of SOFT_RESET. -/
def Obligations.HardwareResetIsSoftReset : Prop :=
  ∀ (s : State) (rest : List HostEvent) (ign : BitVec 28), s.host = .hwReset :: rest →
    step s = exec (.softReset ign) { s with host := rest, readData := none }

/-- 43_commands.md R210 with 10_state.md R57: SOFT_RESET gives every piece of state its reset value, in any mode. The
clauses on `hw`, `host` and `readData` are about the model's own fields and are the model's choice: the build's parameters
stay (log entry 4), the host's further events stay, a hardware reset among them (log entries 1 and 3), and the access
returns no value (log entry 2). -/
def Obligations.SoftResetGivesResetValues : Prop :=
  ∀ (ign : BitVec 28) (s : State), ∃ t, exec (.softReset ign) s = .next t ∧ ResetValues t ∧
    t.hw = s.hw ∧ t.host = s.host ∧ t.readData = none

/-- 10_state.md R57: the values after reset, STATUS and the identification constants as the host reads them. -/
def Obligations.ResetStateHasResetValues : Prop :=
  ResetValues State.reset ∧
  exec .rdStatus State.reset = .next { State.reset with readData := some 0x00001000 } ∧
  exec .rdId State.reset = .next { State.reset with readData := some 0x43454653 } ∧
  exec .rdVersion State.reset = .next { State.reset with readData := some 0x00010000 }

/-! ## Register reads -/

/-- 10_state.md R22, R23, R24: the four identification registers, field by field, in any mode. -/
def Obligations.IdentificationReads : Prop :=
  ∀ s : State, s.hw.Legal →
    exec .rdId s = .next { s with readData := some 0x43454653 } ∧
    exec .rdVersion s = .next { s with readData := some 0x00010000 } ∧
    (∃ w : Word, exec .rdHwcfg0 s = .next { s with readData := some w } ∧
      (w.extractLsb' 0 16).toNat = s.hw.bufDepth ∧ (w.extractLsb' 16 16).toNat = s.hw.outDepth) ∧
    (∃ w : Word, exec .rdHwcfg1 s = .next { s with readData := some w } ∧
      (w.extractLsb' 0 16).toNat = s.hw.ckSpanDepth ∧ (w.extractLsb' 16 4).toNat = s.hw.hdrMax ∧
      (w.extractLsb' 20 4).toNat = s.hw.nSlices ∧ (w.extractLsb' 24 4).toNat = s.hw.nRel ∧
      w.getLsbD 28 = s.hw.cs15Impl ∧ w.extractLsb' 29 3 = 0)

/-- 10_state.md R26, 44_bus_operations.md R230: STATUS, field by field; the read changes nothing. -/
def Obligations.StatusReadReportsFields : Prop :=
  ∀ s : State, ∃ w : Word, exec .rdStatus s = .next { s with readData := some w } ∧
    (w.extractLsb' 0 2).toNat = (match s.mode with | .idle => 0 | .armed => 1 | .cfgErr => 2) ∧
    (s.mode = .armed →
      (w.extractLsb' 2 2).toNat = match s.fsm with | .seekingHeader => 0 | .lengthPending => 1 | .bodyPending => 2) ∧
    (s.mode ≠ .armed → w.extractLsb' 2 2 = 0) ∧
    w.extractLsb' 4 4 = 0 ∧ w.getLsbD 8 = s.ckValid ∧ w.getLsbD 9 = s.ckMatch ∧ w.getLsbD 10 = s.ckGeomErr ∧
    w.getLsbD 11 = s.ckOvf ∧ (w.getLsbD 12 = true ↔ s.out = []) ∧ w.extractLsb' 13 3 = 0 ∧
    w.extractLsb' 16 8 = s.cfgErrCode ∧ w.extractLsb' 24 8 = 0

/-- 44_bus_operations.md R230 with 10_state.md R27-R29, R45-R48: a read of an error, interrupt, level, counter or result
register returns its current value and changes nothing. -/
def Obligations.StateRegisterReads : Prop :=
  ∀ s : State, Inv s → ∀ p ∈ ([
      (.rdErrInfo, s.lastOpErr.setWidth 32), (.rdIrqStatus, s.irqStatus.setWidth 32),
      (.rdIrqEnable, s.irqEnable.setWidth 32), (.rdOutLevel, BitVec.ofNat 32 s.out.length),
      (.rdPendLevel, BitVec.ofNat 32 s.pend.length), (.rdCkLevel, BitVec.ofNat 32 s.span.length),
      (.rdCntFrames, s.cntFrames), (.rdCntResync, s.cntResync), (.rdCntDiscard, s.cntDiscard),
      (.rdCntDropped, s.cntDropped), (.rdCkResult, s.ckResult), (.rdCkStored, s.ckStored)] : List (Instr × Word)),
    exec p.1 s = .next { s with readData := some p.2 }

/-- 44_bus_operations.md R230 with 10_state.md R21, R30-R41: a read of a configuration register returns the stored bits,
the undefined ones 0, in any mode, and changes nothing. -/
def Obligations.ConfigRegisterReads : Prop :=
  ∀ s : State, Inv s → ∀ p ∈ ([
      (.rdFrameCfg, s.cfg.frameCfg, 0x0000370F), (.rdFixedLen, s.cfg.fixedLen, 0x0000FFFF),
      (.rdLenField, s.cfg.lenField, 0xFFFFFFFF), (.rdMaxLen, s.cfg.maxLen, 0x0000FFFF),
      (.rdSyncWindow, s.cfg.syncWindow, 0x0000FFFF), (.rdHdrBytes0, s.cfg.hdrBytes0, 0xFFFFFFFF),
      (.rdHdrBytes1, s.cfg.hdrBytes1, 0xFFFFFFFF), (.rdCkCfg, s.cfg.ckCfg, 0x000F1777),
      (.rdCkRange, s.cfg.ckRange, 0xFFFFFFFF), (.rdCkStoreAt, s.cfg.ckStoreAt, 0x0000FFFF),
      (.rdCrcPoly, s.cfg.crcPoly, 0xFFFFFFFF), (.rdCrcInit, s.cfg.crcInit, 0xFFFFFFFF),
      (.rdCrcXorout, s.cfg.crcXorout, 0xFFFFFFFF)] : List (Instr × Word × Word)),
    exec p.1 s = .next { s with readData := some p.2.1 } ∧ p.2.1 &&& ~~~p.2.2 = 0

/-- 10_state.md R42, 44_bus_operations.md R230, R232: a read of a register of slice i returns it if i < N_SLICES, else
0, for all eight slices the window has offsets for, and changes nothing. -/
def Obligations.SliceRegisterReads : Prop :=
  ∀ s : State,
    (∀ p ∈ ([
        (.rdXsBounds0, .xsBounds 0, 0), (.rdXsStep0, .xsStep 0, 0), (.rdXsRela0, .xsRelA 0, 0),
        (.rdXsRelb0, .xsRelB 0, 0), (.rdXsBounds1, .xsBounds 1, 1), (.rdXsStep1, .xsStep 1, 1),
        (.rdXsRela1, .xsRelA 1, 1), (.rdXsRelb1, .xsRelB 1, 1), (.rdXsBounds2, .xsBounds 2, 2),
        (.rdXsStep2, .xsStep 2, 2), (.rdXsRela2, .xsRelA 2, 2), (.rdXsRelb2, .xsRelB 2, 2),
        (.rdXsBounds3, .xsBounds 3, 3), (.rdXsStep3, .xsStep 3, 3), (.rdXsRela3, .xsRelA 3, 3),
        (.rdXsRelb3, .xsRelB 3, 3)] : List (Instr × ClReg × Nat)),
      exec p.1 s = .next { s with readData := some (if p.2.2 < s.hw.nSlices then s.cfg.get p.2.1 else 0) }) ∧
    (∀ (n : Fin 8) (i : Instr), ∀ p ∈ ([
        (0x080, .xsBounds n), (0x084, .xsStep n), (0x088, .xsRelA n), (0x08C, .xsRelB n)] : List (Nat × ClReg)),
      decodeBus (.read (BitVec.ofNat 12 (p.1 + 16 * n.val))) = .ok i →
      exec i s = .next { s with readData := some (if n.val < s.hw.nSlices then s.cfg.get p.2 else 0) })

/-! ## Register writes -/

/-- 44_bus_operations.md R231, 10_state.md R43: IRQ_ENABLE takes data[6:0] in any mode, and the interrupt output follows
at once; a configuration register takes the data under its mask and no other register changes; while ARMED nothing is
stored and OpErr(5) is raised. The registers of all slices below N_SLICES are among them. -/
def Obligations.RegisterWritesMaskAndLock : Prop :=
  ∀ (s : State) (data : Word),
    (∃ t, exec (.wrIrqEnable data) s = .next t ∧ t = { s with irqEnable := data.setWidth 7 } ∧
      (irq t = true ↔ s.irqStatus &&& data.setWidth 7 ≠ 0)) ∧
    (∀ (i : Instr) (r : ClReg) (m : Word),
      ((i, r, m) ∈ ([
          (.wrFrameCfg data, .frameCfg, 0x0000370F), (.wrFixedLen data, .fixedLen, 0x0000FFFF),
          (.wrLenField data, .lenField, 0xFFFFFFFF), (.wrMaxLen data, .maxLen, 0x0000FFFF),
          (.wrSyncWindow data, .syncWindow, 0x0000FFFF), (.wrHdrBytes0 data, .hdrBytes0, 0xFFFFFFFF),
          (.wrHdrBytes1 data, .hdrBytes1, 0xFFFFFFFF), (.wrCkCfg data, .ckCfg, 0x000F1777),
          (.wrCkRange data, .ckRange, 0xFFFFFFFF), (.wrCkStoreAt data, .ckStoreAt, 0x0000FFFF),
          (.wrCrcPoly data, .crcPoly, 0xFFFFFFFF), (.wrCrcInit data, .crcInit, 0xFFFFFFFF),
          (.wrCrcXorout data, .crcXorout, 0xFFFFFFFF)] : List (Instr × ClReg × Word)) ∨
       ∃ n : Fin 8, n.val < s.hw.nSlices ∧ ∃ p ∈ ([
          (0x080, .xsBounds n, 0xFFFFFFFF), (0x084, .xsStep n, 0x00000FFF), (0x088, .xsRelA n, 0xFFFFFFFF),
          (0x08C, .xsRelB n, 0xFFFFFFFF)] : List (Nat × ClReg × Word)),
          decodeBus (.write (BitVec.ofNat 12 (p.1 + 16 * n.val)) data) = .ok i ∧ p.2 = (r, m)) →
      (s.mode = .armed → exec i s = .next { s with lastOpErr := 5, irqStatus := s.irqStatus ||| 0x20 }) ∧
      (s.mode ≠ .armed → ∃ c : ClRegs, exec i s = .next { s with cfg := c } ∧
        ∀ r' : ClReg, c.get r' = if r' = r then data &&& m else s.cfg.get r'))

/-- 10_state.md R42, R43, 44_bus_operations.md R231, R232: the writes to the registers of slices 0 to 3, by name. -/
def Obligations.SliceRegisterWrites : Prop :=
  ∀ (s : State) (data : Word), ∀ p ∈ ([
      (.wrXsBounds0 data, .xsBounds 0, 0xFFFFFFFF, 0), (.wrXsStep0 data, .xsStep 0, 0x00000FFF, 0),
      (.wrXsRela0 data, .xsRelA 0, 0xFFFFFFFF, 0), (.wrXsRelb0 data, .xsRelB 0, 0xFFFFFFFF, 0),
      (.wrXsBounds1 data, .xsBounds 1, 0xFFFFFFFF, 1), (.wrXsStep1 data, .xsStep 1, 0x00000FFF, 1),
      (.wrXsRela1 data, .xsRelA 1, 0xFFFFFFFF, 1), (.wrXsRelb1 data, .xsRelB 1, 0xFFFFFFFF, 1),
      (.wrXsBounds2 data, .xsBounds 2, 0xFFFFFFFF, 2), (.wrXsStep2 data, .xsStep 2, 0x00000FFF, 2),
      (.wrXsRela2 data, .xsRelA 2, 0xFFFFFFFF, 2), (.wrXsRelb2 data, .xsRelB 2, 0xFFFFFFFF, 2),
      (.wrXsBounds3 data, .xsBounds 3, 0xFFFFFFFF, 3), (.wrXsStep3 data, .xsStep 3, 0x00000FFF, 3),
      (.wrXsRela3 data, .xsRelA 3, 0xFFFFFFFF, 3), (.wrXsRelb3 data, .xsRelB 3, 0xFFFFFFFF, 3)]
      : List (Instr × ClReg × Word × Nat)),
    (s.hw.nSlices ≤ p.2.2.2 → exec p.1 s = .next s) ∧
    (p.2.2.2 < s.hw.nSlices → s.mode = .armed →
      exec p.1 s = .next { s with lastOpErr := 5, irqStatus := s.irqStatus ||| 0x20 }) ∧
    (p.2.2.2 < s.hw.nSlices → s.mode ≠ .armed → ∃ c : ClRegs, exec p.1 s = .next { s with cfg := c } ∧
      ∀ r : ClReg, c.get r = if r = p.2.1 then data &&& p.2.2.1 else s.cfg.get r)

/-- 44_bus_operations.md R232: a read of a reserved offset or a write-only register returns 0, a write to a reserved
offset or a read-only register does nothing, and neither raises an error; the offsets of slices the build lacks are
reserved. The two lists are the readable and the writable registers of 10_state.md R20. -/
def Obligations.ReservedAccessesHaveNoEffect : Prop :=
  ∀ (s : State) (off : BitVec 12) (data : Word) (i : Instr), s.hw.Legal →
    ¬(0x080 ≤ off.toNat ∧ off.toNat < 0x080 + 16 * s.hw.nSlices) →
    (off ∉ ([0x000, 0x004, 0x008, 0x00C, 0x014, 0x018, 0x01C, 0x020, 0x030, 0x034, 0x038, 0x03C, 0x040, 0x044, 0x048,
        0x050, 0x054, 0x058, 0x05C, 0x060, 0x064, 0x110, 0x114, 0x118, 0x120, 0x124, 0x128, 0x12C, 0x148, 0x14C,
        0x150] : List (BitVec 12)) →
      decodeBus (.read off) = .ok i → exec i s = .next { s with readData := some 0 }) ∧
    (off ∉ ([0x010, 0x01C, 0x020, 0x030, 0x034, 0x038, 0x03C, 0x040, 0x044, 0x048, 0x050, 0x054, 0x058, 0x05C, 0x060,
        0x064, 0x100, 0x104, 0x140, 0x144] : List (BitVec 12)) →
      decodeBus (.write off data) = .ok i → exec i s = .next s) ∧
    exec (.reservedAccess (.read off)) s = .next { s with readData := some 0 } ∧
    exec (.reservedAccess (.write off data)) s = .next s

/-! ## Interrupts -/

/-- 44_bus_operations.md R239: a write to IRQ_STATUS clears each bit written as 1, in any mode, and nothing else. -/
def Obligations.InterruptAcknowledgeClearsWrittenBits : Prop :=
  ∀ (s : State) (data : Word), ∃ t, exec (.irqW1c data) s = .next t ∧ t = { s with irqStatus := t.irqStatus } ∧
    (∀ k, k < 7 → t.irqStatus.getLsbD k = (s.irqStatus.getLsbD k && !data.getLsbD k)) ∧
    (irq t = true ↔
      ∃ k, k < 7 ∧ s.irqStatus.getLsbD k = true ∧ data.getLsbD k = false ∧ s.irqEnable.getLsbD k = true)

/-- 60_exceptions.md R275: the interrupt output is 1 exactly while some enabled source is pending; at reset it is 0. -/
def Obligations.InterruptOutputIsEnabledAndPending : Prop :=
  (∀ s : State, irq s = true ↔ ∃ k, k < 7 ∧ s.irqStatus.getLsbD k = true ∧ s.irqEnable.getLsbD k = true) ∧
  irq State.reset = false

/-- 60_exceptions.md R273: an IRQ_STATUS bit is cleared only by a write of 1 to it, or by SOFT_RESET (which CMD can
carry); hardware reset is not an instruction. -/
def Obligations.InterruptBitsClearedOnlyByHost : Prop :=
  ∀ (i : Instr) (s t : State) (k : Nat), exec i s = .next t →
    s.irqStatus.getLsbD k = true → t.irqStatus.getLsbD k = false →
    (∃ data : Word, i = .irqW1c data ∧ data.getLsbD k = true) ∨ (∃ ign, i = .softReset ign) ∨
    (∃ data : Word, i = .cmdWrite data ∧ data.extractLsb' 0 4 = 0xF)

/-! ## Commands -/

/-- 43_commands.md R200, R209: NOP changes nothing; a reserved opcode only raises OpErr(1); both in any mode, and
whatever the ignored bits. -/
def Obligations.NopAndReservedOpcodes : Prop :=
  ∀ (ign : BitVec 28) (s : State),
    (∀ i ∈ ([.nop ign, .cmdWrite 0x00000000, .cmdWrite 0xFFFFFFF0] : List Instr), exec i s = .next s) ∧
    (∀ i ∈ ([.reserved7 ign, .reserved8 ign, .reserved9 ign, .reservedA ign, .reservedB ign, .reservedC ign,
        .reservedD ign, .reservedE ign] : List Instr),
      exec i s = .next { s with lastOpErr := 1, irqStatus := s.irqStatus ||| 0x20 })

/-- 43_commands.md R199, R201, R202, 60_exceptions.md R267: ARM reports the first failing check, or starts a session; in
ARMED it only raises OpErr(2). CrcTable holds the table of CRC_POLY for the two CRC types and is kept for the others
(10_state.md R54; the model's own field, log entry 7). -/
def Obligations.ArmChecksAndEffects : Prop :=
  ∀ (s : State) (ign : BitVec 28),
    (s.mode = .armed → exec (.arm ign) s = .next { s with lastOpErr := 2, irqStatus := s.irqStatus ||| 0x20 }) ∧
    (∀ code : BitVec 8, s.mode ≠ .armed → ArmCheckFails s.hw s.cfg code.toNat →
      (∀ j, j < code.toNat → ¬ArmCheckFails s.hw s.cfg j) →
      exec (.arm ign) s =
        .next { s with mode := .cfgErr, cfgErrCode := code, irqStatus := s.irqStatus ||| 0x10 }) ∧
    (s.mode ≠ .armed → (∀ j, ¬ArmCheckFails s.hw s.cfg j) →
      ∃ t, exec (.arm ign) s = .next t ∧
        t = { s with
          mode := .armed, fsm := .seekingHeader, cfgErrCode := 0, pend := [], out := [], span := [],
          ckValid := false, ckMatch := false, ckGeomErr := false, ckOvf := false, ckResult := 0, ckStored := 0,
          cntFrames := 0, cntResync := 0, cntDiscard := 0, cntDropped := 0, crcTable := t.crcTable } ∧
        (s.cfg.ckType = 3 → t.crcTable.length = 256 ∧ ∀ d : Byte, t.crcTable[d.toNat]? =
          some (((crcShift (s.cfg.crcPoly.setWidth 16))^[8] (d.setWidth 16 <<< 8)).setWidth 32)) ∧
        (s.cfg.ckType = 4 → t.crcTable.length = 256 ∧ ∀ d : Byte, t.crcTable[d.toNat]? =
          some ((crcShift s.cfg.crcPoly)^[8] (d.setWidth 32 <<< 24))) ∧
        (s.cfg.ckType ≠ 3 → s.cfg.ckType ≠ 4 → t.crcTable = s.crcTable)) ∧
    (ArmCheckFails State.reset.hw State.reset.cfg 2 ∧
      exec (.arm ign) State.reset = .next { State.reset with mode := .cfgErr, cfgErrCode := 2, irqStatus := 0x10 } ∧
      statusWord { State.reset with mode := .cfgErr, cfgErrCode := 2, irqStatus := 0x10 } = 0x00021002)

/-- 43_commands.md R203: DISARM in any mode. -/
def Obligations.DisarmEndsSession : Prop :=
  ∀ (ign : BitVec 28) (s : State), exec (.disarm ign) s =
    .next { s with mode := .idle, fsm := .seekingHeader, pend := [], span := [] }

/-- 43_commands.md R206: CK_INIT. -/
def Obligations.CkInitStartsSpan : Prop :=
  ∀ (ign : BitVec 28) (s : State),
    (s.mode ≠ .armed → exec (.ckInit ign) s = .next { s with lastOpErr := 2, irqStatus := s.irqStatus ||| 0x20 }) ∧
    (s.mode = .armed → exec (.ckInit ign) s = .next { s with
      span := [], ckValid := false, ckMatch := false, ckGeomErr := false, ckOvf := false, ckResult := 0,
      ckStored := 0 })

/-- 43_commands.md R207, R199: CK_COMPUTE of the whole span, for a TYPE that names a family. -/
def Obligations.CkComputeWholeSpan : Prop :=
  ∀ (ign : BitVec 28) (s : State) (f : CkFamily),
    (s.mode ≠ .armed → exec (.ckCompute ign) s = .next { s with lastOpErr := 2, irqStatus := s.irqStatus ||| 0x20 }) ∧
    (s.mode = .armed → s.cfg.family = some f → (f = .xor16 ∧ ∃ x ∈ s.cfg.xs.toList.take s.cfg.xsCount,
        x.legal s.cfg.rangeIncl s.span.length = false) →
      exec (.ckCompute ign) s = .next { s with
        ckGeomErr := true, ckValid := false, ckMatch := false, ckResult := 0, irqStatus := s.irqStatus ||| 0x40 }) ∧
    (s.mode = .armed → s.cfg.family = some f → (f = .xor16 → ∀ x ∈ s.cfg.xs.toList.take s.cfg.xsCount,
        x.legal s.cfg.rangeIncl s.span.length = true) →
      exec (.ckCompute ign) s = .next { s with
        ckResult := familyValue s.cfg f s.span s.span, ckValid := true, ckGeomErr := false, ckMatch := false,
        irqStatus := s.irqStatus ||| 0x40 })

/-- 43_commands.md R208, R199: CK_VERIFY of the span as a frame, for a TYPE that names a family. -/
def Obligations.CkVerifySpanAsFrame : Prop :=
  ∀ (ign : BitVec 28) (s : State) (f : CkFamily),
    (s.mode ≠ .armed → exec (.ckVerify ign) s = .next { s with lastOpErr := 2, irqStatus := s.irqStatus ||| 0x20 }) ∧
    (s.mode = .armed → s.cfg.ckGeom s.span.length = false →
      exec (.ckVerify ign) s = .next { s with
        ckGeomErr := true, ckValid := false, ckMatch := false, ckResult := 0, ckStored := 0,
        irqStatus := s.irqStatus ||| 0x40 }) ∧
    (s.mode = .armed → s.cfg.family = some f → s.cfg.ckGeom s.span.length = true →
      exec (.ckVerify ign) s = .next { s with
        ckResult := familyValue s.cfg f s.span (s.cfg.covered s.span), ckStored := s.cfg.stored s.span,
        ckValid := true, ckGeomErr := false,
        ckMatch := decide (familyValue s.cfg f s.span (s.cfg.covered s.span) = s.cfg.stored s.span),
        irqStatus := s.irqStatus ||| 0x40 })

/-- 43_commands.md R204, R205 (first point), R199: FLUSH runs its loop, then discards and counts the remainder. -/
def Obligations.FlushResolvesCandidates : Prop :=
  ∀ (ign : BitVec 28) (s : State),
    (s.mode ≠ .armed → exec (.flush ign) s = .next { s with lastOpErr := 2, irqStatus := s.irqStatus ||| 0x20 }) ∧
    (s.mode = .armed → Inv s → ∃ t, FlushesTo s t ∧ t.fsm = .seekingHeader ∧
      exec (.flush ign) s = .next (if t.pend = [] then t else { t with
        pend := [], cntDiscard := t.cntDiscard + BitVec.ofNat 32 t.pend.length, irqStatus := t.irqStatus ||| 0x04 }))

/-! ## The checksum engine -/

/-- 40_checksum_engine.md R104 with 30_encoding.md R84: SUM8. -/
def Obligations.Sum8IsWraparoundSum : Prop :=
  ckFamilyOf 0 = some .sum8 ∧ CkFamily.sum8.resultBytes = 1 ∧
  ∀ (c : ClRegs) (whole bytes : List Byte),
    familyValue c .sum8 whole bytes = BitVec.ofNat 32 ((bytes.map BitVec.toNat).sum % 256)

/-- 40_checksum_engine.md R115: the table step and the bitwise step are the same function, for every width of at least a
byte, polynomial, register and byte. -/
def Obligations.TableStepEqualsBitwiseStep : Prop :=
  ∀ (w : Nat) (poly reg : BitVec w) (d : Byte), 8 ≤ w → crcByteTable poly reg d = crcByteBitwise poly reg d

/-- 40_checksum_engine.md R115, R122: CRC_METHOD changes no result, record, counter or flag of a command or a push. -/
def Obligations.CrcMethodUnobservable : Prop :=
  ∀ (s t : State) (m : Bool) (data : Word) (ign : BitVec 28),
    ∀ i ∈ ([.data8 data, .data32 data, .flush ign, .ckData8 data, .ckData32 data, .ckInit ign, .ckCompute ign,
      .ckVerify ign, .arm ign, .disarm ign, .outPop, .rdStatus, .rdCkResult, .rdCkStored] : List Instr),
    exec i s = .next t → exec i { s with cfg := s.cfg.withMethod m } = .next { t with cfg := t.cfg.withMethod m }

/-- 40_checksum_engine.md R109, R110, R112-R114, R116: the CRC over any bytes is the polynomial division with the five
parameters, by either method (R115); over no bytes it is the initial value through REFOUT and XOROUT; TYPE 3 and TYPE 4
take the parameters from the registers, TYPE 3 from their low halves alone; and the ten named variants give their check
values over "123456789". -/
def Obligations.NamedCrcVariants : Prop :=
  (∀ (w : Nat) (p : CrcParams w) (data : List Byte) (shift : BitVec w → BitVec w) (reg : BitVec w), 8 ≤ w →
    shift = (fun r => if r.msb then (r <<< 1) ^^^ p.poly else r <<< 1) →
    reg = data.foldl (fun (r : BitVec w) b =>
      shift^[8] (r ^^^ (BitVec.setWidth w (if p.refin then b.reverse else b) <<< (w - 8) : BitVec w))) p.init →
    crc p data = (if p.refout then reg.reverse else reg) ^^^ p.xorout) ∧
  (∀ (w : Nat) (p : CrcParams w), crc p [] = (if p.refout then p.init.reverse else p.init) ^^^ p.xorout) ∧
  (∀ (c : ClRegs) (table refin refout : Bool), table = decide (c.ckCfg.toNat / 4096 % 2 = 1) →
    refin = decide (c.ckCfg.toNat / 32 % 2 = 1) → refout = decide (c.ckCfg.toNat / 64 % 2 = 1) →
    (c.ckCfg.toNat % 8 = 3 →
      ∀ p, p = (⟨BitVec.ofNat 16 (c.crcPoly.toNat % 65536), BitVec.ofNat 16 (c.crcInit.toNat % 65536),
          BitVec.ofNat 16 (c.crcXorout.toNat % 65536), refin, refout, table⟩ : CrcParams 16) →
        (∀ frame, c.ckGeom frame.length = true → c.value frame = some ((crc p (c.covered frame)).setWidth 32)) ∧
        ∀ span, c.valueSpan span = some ((crc p span).setWidth 32)) ∧
    (c.ckCfg.toNat % 8 = 4 →
      ∀ p, p = (⟨c.crcPoly, c.crcInit, c.crcXorout, refin, refout, table⟩ : CrcParams 32) →
        (∀ frame, c.ckGeom frame.length = true → c.value frame = some (crc p (c.covered frame))) ∧
        ∀ span, c.valueSpan span = some (crc p span))) ∧
  ∀ table : Bool,
    (∀ p ∈ ([
        (0x1021, 0xFFFF, false, false, 0x0000, 0x29B1), (0x1021, 0x0000, true, true, 0x0000, 0x2189),
        (0x1021, 0x0000, false, false, 0x0000, 0x31C3), (0x1021, 0xFFFF, true, true, 0xFFFF, 0x906E),
        (0x8005, 0x0000, true, true, 0x0000, 0xBB3D), (0x8005, 0xFFFF, true, true, 0x0000, 0x4B37)]
        : List (BitVec 16 × BitVec 16 × Bool × Bool × BitVec 16 × BitVec 16)),
      crc ⟨p.1, p.2.1, p.2.2.2.2.1, p.2.2.1, p.2.2.2.1, table⟩
        [0x31, 0x32, 0x33, 0x34, 0x35, 0x36, 0x37, 0x38, 0x39] = p.2.2.2.2.2) ∧
    (∀ p ∈ ([
        (0x04C11DB7, 0xFFFFFFFF, true, true, 0xFFFFFFFF, 0xCBF43926),
        (0x04C11DB7, 0xFFFFFFFF, false, false, 0xFFFFFFFF, 0xFC891918),
        (0x1EDC6F41, 0xFFFFFFFF, true, true, 0xFFFFFFFF, 0xE3069283),
        (0x04C11DB7, 0xFFFFFFFF, false, false, 0x00000000, 0x0376E6E7)]
        : List (BitVec 32 × BitVec 32 × Bool × Bool × BitVec 32 × BitVec 32)),
      crc ⟨p.1, p.2.1, p.2.2.2.2.1, p.2.2.1, p.2.2.2.1, table⟩
        [0x31, 0x32, 0x33, 0x34, 0x35, 0x36, 0x37, 0x38, 0x39] = p.2.2.2.2.2)

/-- 40_checksum_engine.md R121: a frame whose store field takes the computed value verifies, when the covered bytes, or
the visited slice bytes, do not overlap that field; the store width is legal and holds the result (R119). -/
def Obligations.WrittenChecksumVerifies : Prop :=
  ∀ (c : ClRegs) (f : CkFamily) (frame : List Byte),
    c.family = some f → c.storeWidth ≠ 3 → f.resultBytes ≤ c.sw → c.ckGeom frame.length = true →
    (f = .xor16 → ∀ x ∈ c.usedSlices, ∀ v ∈ x.visits c.rangeIncl frame.length, ¬c.inStore frame.length v.1) →
    (f ≠ .xor16 → ∀ q : Int, absOff c.rangeFrom frame.length ≤ q →
      (if c.rangeIncl then q ≤ absOff c.rangeTo frame.length else q < absOff c.rangeTo frame.length) →
      ¬c.inStore frame.length q) →
    ∃ v, c.verify (c.withStored frame (familyValue c f frame (c.covered frame))) = some v ∧ v.ok = true ∧
      v.computed = familyValue c f frame (c.covered frame)

/-- 40_checksum_engine.md R105-R107: the positions of a slice with legal bounds and a stride, in order; its visits in
order, with their lanes; its legality; the half of the accumulator a visit changes; and the value of TYPE 2, every visit
of the slices 0..XS_COUNT-1 in order XORed into an accumulator that starts at 0. -/
def Obligations.SliceVisitsAndLanes : Prop :=
  (∀ (x : XsSlice) (incl : Bool) (n : Nat), 1 ≤ x.stride →
    boundsLegal incl (absOff x.startOff n) (absOff x.endOff n) n = true →
    ∃ m : Nat, x.positions incl n = (List.range m).map (fun k => absOff x.startOff n + (k * x.stride : Nat)) ∧
      ∀ k : Nat, k < m ↔
        if incl then absOff x.startOff n + (k * x.stride : Nat) ≤ absOff x.endOff n
        else absOff x.startOff n + (k * x.stride : Nat) < absOff x.endOff n) ∧
  (∀ (x : XsSlice) (incl : Bool) (n : Nat),
    (x.visits incl n).length = (x.positions incl n).length * x.nRel ∧
    ∀ (k j : Nat) (p : Int), (x.positions incl n)[k]? = some p → j < x.nRel →
      (x.visits incl n)[k * x.nRel + j]? = some (p + x.rel j, j % 2)) ∧
  (∀ (x : XsSlice) (incl : Bool) (n : Nat), x.legal incl n = true ↔
    ((0 ≤ absOff x.startOff n ∧ absOff x.startOff n ≤ absOff x.endOff n ∧
      if incl then absOff x.endOff n ≤ (n : Int) - 1 else absOff x.endOff n ≤ n) ∧
    ∀ p ∈ x.positions incl n, ∀ j, j < x.nRel → 0 ≤ p + x.rel j ∧ p + x.rel j < n)) ∧
  (∀ (frame : List Byte) (acc : BitVec 16) (q : Nat) (b : Byte), frame[q]? = some b →
    ((xorVisit frame acc (q, 0)).extractLsb' 0 8 = acc.extractLsb' 0 8 ^^^ b ∧
      (xorVisit frame acc (q, 0)).extractLsb' 8 8 = acc.extractLsb' 8 8) ∧
    ((xorVisit frame acc (q, 1)).extractLsb' 0 8 = acc.extractLsb' 0 8 ∧
      (xorVisit frame acc (q, 1)).extractLsb' 8 8 = acc.extractLsb' 8 8 ^^^ b)) ∧
  (∀ (c : ClRegs) (frame : List Byte) (v : BitVec 16), c.ckCfg.toNat % 8 = 2 →
    (∀ x ∈ c.xs.toList.take c.xsCount, x.legal c.rangeIncl frame.length = true) →
    v = ((c.xs.toList.take c.xsCount).map fun x => x.visits c.rangeIncl frame.length).flatten.foldl
      (fun acc visit => acc ^^^ ((frame.getD visit.1.toNat 0).setWidth 16 <<< (8 * visit.2))) 0 →
    c.valueSpan frame = some (v.setWidth 32) ∧
    (c.ckGeom frame.length = true → c.value frame = some (v.setWidth 32)))

/-- 40_checksum_engine.md R101, R102 with 00_scope.md R13: the legal ranges, the bytes a legal range covers, and the
checksum geometry. -/
def Obligations.RangeAndGeometry : Prop :=
  ∀ (c : ClRegs) (frame : List Byte) (f t s : Int),
    f = (if 0 ≤ c.rangeFrom then c.rangeFrom else frame.length + c.rangeFrom) →
    t = (if 0 ≤ c.rangeTo then c.rangeTo else frame.length + c.rangeTo) →
    s = (if 0 ≤ c.storeAt then c.storeAt else frame.length + c.storeAt) →
    (c.rangeLegal frame.length = true ↔
      (0 ≤ f ∧ f ≤ t ∧ if c.rangeIncl then t ≤ (frame.length : Int) - 1 else t ≤ frame.length)) ∧
    (c.rangeLegal frame.length = true →
      ((c.covered frame).length : Int) = (if c.rangeIncl then t + 1 - f else t - f) ∧
      ∀ k, k < (c.covered frame).length → (c.covered frame)[k]? = frame[f.toNat + k]?) ∧
    (c.ckGeom frame.length = true ↔
      ((c.ckType ≠ 2 → c.rangeLegal frame.length = true) ∧
       (c.ckType = 2 → ∀ x ∈ c.xs.toList.take c.xsCount, x.legal c.rangeIncl frame.length = true) ∧
       0 ≤ s ∧ s + c.sw ≤ frame.length))

/-- 40_checksum_engine.md R117 with 00_scope.md R12: the stored value as a sum over the store field's bytes. -/
def Obligations.StoredValueIsByteSum : Prop :=
  ∀ (c : ClRegs) (frame : List Byte) (s : Nat), c.storeWidth ≠ 3 → c.ckGeom frame.length = true →
    (s : Int) = c.storePos frame.length →
    (c.stored frame).toNat = ∑ i ∈ Finset.range c.sw,
      (frame.getD (s + i) 0).toNat * (if c.storeBe then 256 ^ (c.sw - 1 - i) else 256 ^ i)

/-! ## The length resolver and the fields -/

/-- 41_length_resolver.md R141-R145: Fixed mode answers FIXED_LEN; Dynamic mode waits for the field, reads it as a sum of
its bytes (signed as two's complement), adds OVERHEAD on integers, and checks the total in order. -/
def Obligations.LengthResolution : Prop :=
  ∀ (c : ClRegs) (pend : List Byte),
    (c.dynamic = false → c.resolve pend = .ok c.fixedLength) ∧
    (c.dynamic = true → pend.length < c.lenOff + c.lw → c.resolve pend = .need) ∧
    (∀ (raw : Nat) (v total : Int), c.dynamic = true → c.lenOff + c.lw ≤ pend.length → c.lenWidth ≠ 3 →
      raw = ∑ i ∈ Finset.range c.lw,
        (pend.getD (c.lenOff + i) 0).toNat * (if c.lenBe then 256 ^ (c.lw - 1 - i) else 256 ^ i) →
      v = (if c.lenSigned = true ∧ 256 ^ c.lw ≤ 2 * raw then (raw : Int) - 256 ^ c.lw else raw) →
      total = v + c.overhead →
      c.resolve pend =
        if total ≤ 0 then .invalid .notPositive (BitVec.ofNat 32 raw)
        else if (c.maxLength : Int) < total then .invalid .overMax (BitVec.ofNat 32 raw)
        else if total < c.hdrLen ∨ total < c.lenOff + c.lw ∨ c.ckGeom total.toNat = false then
          .invalid .geometry (BitVec.ofNat 32 raw)
        else .ok total.toNat)

/-- 30_encoding.md R83-R85 with 10_state.md R30-R42: the fields as integers, sign-extended or zero-extended, the one-bit
fields, the TYPE codes with their result widths, the width codes and the header pattern. -/
def Obligations.ConfigFieldsAsIntegers : Prop :=
  ∀ (c : ClRegs) (x : XsSlice),
    (∀ p ∈ ([
        (c.rangeFrom, c.ckRange.toNat % 65536), (c.rangeTo, c.ckRange.toNat / 65536),
        (c.storeAt, c.ckStoreAt.toNat % 65536), (x.startOff, x.bounds.toNat % 65536),
        (x.endOff, x.bounds.toNat / 65536)] : List (Int × Nat)),
      p.1 = if p.2 < 32768 then (p.2 : Int) else (p.2 : Int) - 65536) ∧
    (∀ k, k < 8 → ∀ b : Nat, b = (if k < 4 then x.relA.toNat else x.relB.toNat) / 256 ^ (k % 4) % 256 →
      x.rel k = if b < 128 then (b : Int) else (b : Int) - 256) ∧
    (∀ p ∈ ([
        (c.hdrLen, c.frameCfg.toNat % 16), (c.fixedLength, c.fixedLen.toNat % 65536),
        (c.lenOff, c.lenField.toNat % 65536), (c.overhead, c.lenField.toNat / 65536),
        (c.maxLength, c.maxLen.toNat % 65536), (c.window, c.syncWindow.toNat % 65536),
        (x.stride, x.step.toNat % 256), (x.nRel, x.step.toNat / 256 % 16),
        (c.xsCount, c.ckCfg.toNat / 65536 % 16)] : List (Nat × Nat)), p.1 = p.2) ∧
    (∀ p ∈ ([(c.frameCfg.toNat / 4096 % 4, c.lw), (c.ckCfg.toNat / 256 % 4, c.sw)] : List (Nat × Nat)),
      (p.1 = 0 → p.2 = 1) ∧ (p.1 = 1 → p.2 = 2) ∧ (p.1 = 2 → p.2 = 4)) ∧
    (∀ p ∈ ([
        (c.dynamic, c.frameCfg.toNat / 2 ^ 8), (c.lenSigned, c.frameCfg.toNat / 2 ^ 9),
        (c.lenBe, c.frameCfg.toNat / 2 ^ 10), (c.rangeIncl, c.ckCfg.toNat / 2 ^ 4), (c.refin, c.ckCfg.toNat / 2 ^ 5),
        (c.refout, c.ckCfg.toNat / 2 ^ 6), (c.storeBe, c.ckCfg.toNat / 2 ^ 10),
        (c.crcByTable, c.ckCfg.toNat / 2 ^ 12)] : List (Bool × Nat)), p.1 = true ↔ p.2 % 2 = 1) ∧
    (∀ p ∈ ([(0, .sum8, 1), (1, .cs15, 2), (2, .xor16, 2), (3, .crc16, 2), (4, .crc32, 4)]
        : List (Nat × CkFamily × Nat)),
      c.ckCfg.toNat % 8 = p.1 → c.family = some p.2.1 ∧ p.2.1.resultBytes = p.2.2) ∧
    (5 ≤ c.ckCfg.toNat % 8 → c.family = none) ∧
    (∀ k, k < 8 → k < c.hdrLen → c.hdr[k]? = some (BitVec.ofNat 8
      ((if k < 4 then c.hdrBytes0.toNat else c.hdrBytes1.toNat) / 256 ^ (k % 4))))

/-! ## The frame synchronizer -/

/-- 44_bus_operations.md R234: DATA8 appends data[7:0] to Pend and runs the synchronizer; when not armed it only raises
OpErr(3). `RunsTo` is `Run()` of 42_frame_synchronizer.md R163 as a relation. -/
def Obligations.PushRunsSynchronizer : Prop :=
  ∀ (s : State) (data : Word),
    (s.mode ≠ .armed → exec (.data8 data) s = .next { s with lastOpErr := 3, irqStatus := s.irqStatus ||| 0x20 }) ∧
    (s.mode = .armed → Inv s → ∃ t, RunsTo { s with pend := s.pend ++ [data.setWidth 8] } t ∧
      exec (.data8 data) s = .next t)

/-- 42_frame_synchronizer.md R163: `Run()` has one result. -/
def Obligations.RunHasOneResult : Prop := ∀ s t u : State, RunsTo s t → RunsTo s u → t = u

/-- 42_frame_synchronizer.md R167, R176: a byte pushed while no header is found stays in Pend, and the oldest bytes
beyond the window are discarded, counted and reported. -/
def Obligations.NoiseByteAndWindowGuard : Prop :=
  ∀ (s : State) (data : Word) (pend : List Byte), s.mode = .armed → s.fsm = .seekingHeader →
    pend = s.pend ++ [data.setWidth 8] → (∀ p, ¬Matches s.cfg.hdr pend p) →
    exec (.data8 data) s = .next (
      if pend.length ≤ s.cfg.window then { s with pend := pend }
      else { s with
        pend := pend.drop (pend.length - s.cfg.window),
        cntDiscard := s.cntDiscard + BitVec.ofNat 32 (pend.length - s.cfg.window),
        irqStatus := s.irqStatus ||| 0x04 })

/-- 42_frame_synchronizer.md R171, R172, R173, R181: a byte of an incomplete candidate waits; the last byte of one that
verifies makes a frame, its record dropped and counted if it does not fit. -/
def Obligations.LastByteEmitsValidFrame : Prop :=
  ∀ (s : State) (data : Word) (frame : List Byte), s.mode = .armed → s.fsm = .bodyPending →
    frame = s.pend ++ [data.setWidth 8] →
    (frame.length < s.candLen → exec (.data8 data) s = .next { s with pend := frame }) ∧
    (Inv s → frame.length = s.candLen →
      (∃ v, s.cfg.verify frame = some v ∧ v.ok = true) →
      exec (.data8 data) s = .next (
        if (frameRecord frame).length ≤ s.hw.outDepth - s.out.length then
          { s with pend := [], fsm := .seekingHeader, out := s.out ++ frameRecord frame,
                   cntFrames := s.cntFrames + 1, irqStatus := s.irqStatus ||| 0x01 }
        else
          { s with pend := [], fsm := .seekingHeader, cntDropped := s.cntDropped + 1,
                   cntFrames := s.cntFrames + 1, irqStatus := s.irqStatus ||| 0x08 ||| 0x01 }))

/-- 42_frame_synchronizer.md R172, R174, R178, R181: the last byte of a candidate that fails makes a MISMATCH record,
exactly one byte is dropped, and the synchronizer runs on from there. -/
def Obligations.LastByteResyncsFailedFrame : Prop :=
  ∀ (s : State) (data : Word) (frame : List Byte) (v : Verdict), Inv s → s.mode = .armed → s.fsm = .bodyPending →
    frame = s.pend ++ [data.setWidth 8] → frame.length = s.candLen → s.cfg.verify frame = some v → v.ok = false →
    ∃ t, exec (.data8 data) s = .next t ∧
      RunsTo (
        if 3 ≤ s.hw.outDepth - s.out.length then
          { s with pend := frame.drop 1, fsm := .seekingHeader, cntResync := s.cntResync + 1,
                   out := s.out ++ [(0x02 : Word) ||| (BitVec.ofNat 32 s.candLen <<< 16), v.computed, v.stored],
                   irqStatus := s.irqStatus ||| 0x02 }
        else
          { s with pend := frame.drop 1, fsm := .seekingHeader, cntResync := s.cntResync + 1,
                   cntDropped := s.cntDropped + 1, irqStatus := s.irqStatus ||| 0x08 ||| 0x02 }) t

/-- 30_encoding.md R88-R93: the words of the four records. Of each, the descriptor's fields (TYPE, CHECKSUM_OK and VALID,
bits [7:6], REASON, LEN) and the payload. -/
def Obligations.FrameRecordLayout : Prop :=
  (∀ frame : List Byte,
    (frameRecord frame)[0]? = some ((0x31 : Word) ||| (BitVec.ofNat 32 frame.length <<< 16)) ∧
    (frameRecord frame).length = 1 + (frame.length + 3) / 4 ∧
    ∀ j k, j < (frame.length + 3) / 4 → k < 4 →
      ∃ w : Word, (frameRecord frame)[1 + j]? = some w ∧
        w.extractLsb' (8 * k) 8 = (if 4 * j + k < frame.length then frame.getD (4 * j + k) 0 else 0)) ∧
  (∀ (n : Nat) (computed stored raw : Word),
    mismatchRecord n computed stored = [(0x02 : Word) ||| (BitVec.ofNat 32 n <<< 16), computed, stored] ∧
    lenInvalidRecord .notPositive raw = [0x0103, raw] ∧
    lenInvalidRecord .overMax raw = [0x0203, raw] ∧
    lenInvalidRecord .geometry raw = [0x0303, raw] ∧
    truncatedRecord n = [(0x04 : Word) ||| (BitVec.ofNat 32 n <<< 16)]) ∧
  ∀ (frame : List Byte) (n : Nat) (computed stored raw : Word), frame.length < 65536 → n < 65536 →
    ∀ p ∈ ([
        (frameRecord frame, 1, 3, 0, frame.length), (mismatchRecord n computed stored, 2, 0, 0, n),
        (lenInvalidRecord .notPositive raw, 3, 0, 1, 0), (lenInvalidRecord .overMax raw, 3, 0, 2, 0),
        (lenInvalidRecord .geometry raw, 3, 0, 3, 0), (truncatedRecord n, 4, 0, 0, n)]
        : List (List Word × BitVec 4 × BitVec 2 × BitVec 8 × Nat)),
      ∃ d : Word, p.1[0]? = some d ∧ d.extractLsb' 0 4 = p.2.1 ∧ d.extractLsb' 4 2 = p.2.2.1 ∧
        d.extractLsb' 6 2 = 0 ∧ d.extractLsb' 8 8 = p.2.2.2.1 ∧ (d.extractLsb' 16 16).toNat = p.2.2.2.2

/-- 44_bus_operations.md R235: DATA32 is four DATA8 writes of its lanes, lane 0 first; when not armed it shows one
OpErr(3). -/
def Obligations.Data32IsFourPushes : Prop :=
  ∀ (s : State) (data : Word),
    (s.mode ≠ .armed → exec (.data32 data) s = .next { s with lastOpErr := 3, irqStatus := s.irqStatus ||| 0x20 }) ∧
    (Inv s → ∃ t1 t2 t3 t4, exec (.data8 data) s = .next t1 ∧ exec (.data8 (data >>> 8)) t1 = .next t2 ∧
      exec (.data8 (data >>> 16)) t2 = .next t3 ∧ exec (.data8 (data >>> 24)) t3 = .next t4 ∧
      exec (.data32 data) s = .next t4)

/-- 42_frame_synchronizer.md R183: how bytes are grouped into accesses changes nothing at the end of a host program:
every four-byte push may be written as four one-byte pushes. -/
def Obligations.GroupingOfBytesUnobservable : Prop :=
  ∀ (s : State) (program : List HostOp),
    Sys2Proof.core.run (hostEvents program).length { s with host := hostEvents program } =
    Sys2Proof.core.run (hostEvents (program.map HostOp.bytewise)).length
      { s with host := hostEvents (program.map HostOp.bytewise) }

/-- What DATA8, DATA32 and FLUSH of an armed block change: the synchronizer's parts, Out, IRQ_STATUS and the counters
(44_bus_operations.md R234, R240, 43_commands.md R204); Out only gains words and never exceeds OUT_DEPTH (10_state.md
R52), and interrupt bits are only set. -/
def Obligations.PushAndFlushFrame : Prop :=
  ∀ (s : State) (data : Word) (ign : BitVec 28), Inv s → s.mode = .armed →
    ∀ i ∈ ([.data8 data, .data32 data, .flush ign] : List Instr),
    ∃ t, exec i s = .next t ∧
      t = { s with
        fsm := t.fsm, candLen := t.candLen, pend := t.pend, out := t.out, irqStatus := t.irqStatus,
        cntFrames := t.cntFrames, cntResync := t.cntResync, cntDiscard := t.cntDiscard,
        cntDropped := t.cntDropped } ∧
      s.out <+: t.out ∧ t.out.length ≤ s.hw.outDepth ∧ s.irqStatus &&& t.irqStatus = s.irqStatus

/-- 42_frame_synchronizer.md R187: the worked sequence, push by push, from the reset of a build with the reference
parameters (of which it needs a buffer of 9 bytes and a FIFO of 5 words); the eight steps before the first push
configure and arm. -/
def Obligations.WorkedSequence : Prop :=
  (∀ p ∈ ([
      (9, .seekingHeader, [0x00]), (10, .bodyPending, [0x7E]), (11, .bodyPending, [0x7E, 0x7E]),
      (12, .bodyPending, [0x7E, 0x7E, 0x01]), (13, .bodyPending, [0x7E, 0x01, 0x02]), (14, .seekingHeader, [])]
      : List (Nat × Fsm × List Byte)),
    (nextState (Sys2Proof.core.run p.1 (startWith workedProgram))).map (fun t => (t.fsm, t.pend)) = some p.2) ∧
  (nextState (Sys2Proof.core.run 14 (startWith workedProgram))).map
      (fun t => (t.cntFrames, t.cntResync, t.cntDiscard, t.out)) =
    some (1, 1, 0, [0x00040002, 0x000000FD, 0x00000002, 0x00040031, 0x8102017E])

/-! ## The output port and the checksum port -/

/-- 44_bus_operations.md R236: a read of OUT_DATA pops the oldest word, in any mode; an empty FIFO gives 0 and
OpErr(6). -/
def Obligations.OutPopReturnsOldestWord : Prop :=
  ∀ s : State,
    (s.out = [] → exec .outPop s =
      .next { s with readData := some 0, lastOpErr := 6, irqStatus := s.irqStatus ||| 0x20 }) ∧
    (∀ v rest, s.out = v :: rest → exec .outPop s = .next { s with readData := some v, out := rest })

/-- 44_bus_operations.md R237: CK_DATA8. -/
def Obligations.CkData8AppendsToSpan : Prop :=
  ∀ (s : State) (data : Word),
    (s.mode ≠ .armed → exec (.ckData8 data) s = .next { s with lastOpErr := 3, irqStatus := s.irqStatus ||| 0x20 }) ∧
    (s.mode = .armed → s.span.length = s.hw.ckSpanDepth →
      exec (.ckData8 data) s = .next { s with ckOvf := true, lastOpErr := 4, irqStatus := s.irqStatus ||| 0x20 }) ∧
    (s.mode = .armed → s.span.length < s.hw.ckSpanDepth →
      exec (.ckData8 data) s = .next { s with span := s.span ++ [data.setWidth 8] })

/-- 44_bus_operations.md R238, 60_exceptions.md R269: CK_DATA32 stores the lanes that fit, lane 0 first; the others raise
OpErr(4) and set CK_OVF. -/
def Obligations.CkData32StoresLanesThatFit : Prop :=
  ∀ (s : State) (data : Word),
    (s.mode ≠ .armed → exec (.ckData32 data) s = .next { s with lastOpErr := 3, irqStatus := s.irqStatus ||| 0x20 }) ∧
    (s.mode = .armed → s.span.length ≤ s.hw.ckSpanDepth → exec (.ckData32 data) s = .next (
      if s.span.length + 4 ≤ s.hw.ckSpanDepth then
        { s with span := s.span ++ [data.extractLsb' 0 8, data.extractLsb' 8 8, data.extractLsb' 16 8,
          data.extractLsb' 24 8] }
      else { s with
        span := s.span ++ [data.extractLsb' 0 8, data.extractLsb' 8 8, data.extractLsb' 16 8,
          data.extractLsb' 24 8].take (s.hw.ckSpanDepth - s.span.length),
        ckOvf := true, lastOpErr := 4, irqStatus := s.irqStatus ||| 0x20 }))

/-! ## Invariants and whole-machine rules -/

/-- The invariant holds after reset (10_state.md R57, R58), for every legal build. -/
def Obligations.ResetMeetsInvariant : Prop :=
  Inv State.reset ∧ ∀ hw : HwParams, hw.Legal → Inv (State.resetFor hw)

/-- 10_state.md R58 and the ranges of the state's parts (R50-R54): every step keeps the invariant, from every state that
meets it. -/
def Obligations.StepKeepsInvariant : Prop := ∀ s t : State, Inv s → step s = .next t → Inv t

/-- 60_exceptions.md R260: the block never stops processing: from every state that meets the invariant, every
instruction has a next state, and a step is refused only for a host-protocol violation. -/
def Obligations.EveryInstructionCompletes : Prop :=
  ∀ s : State, Inv s → (∀ i : Instr, ∃ t, exec i s = .next t) ∧
    ((∃ t, step s = .next t) ∨ ∃ a rest why, s.host = .access a :: rest ∧ decodeAccess a = .error why ∧
      step s = .refused (.hostProtocol why))

/-- 10_state.md R43, 00_scope.md R9: no step changes the build's parameters, and no step changes the configuration
within a session. -/
def Obligations.SessionConfigurationIsLocked : Prop :=
  ∀ s t : State, step s = .next t → t.hw = s.hw ∧ (s.mode = .armed → t.mode = .armed → t.cfg = s.cfg)

/-- 43_commands.md R211: only ARM, DISARM and SOFT_RESET (or a CMD write that carries one) change MODE, and to what. -/
def Obligations.ModeTransitions : Prop :=
  ∀ (i : Instr) (s t : State), exec i s = .next t →
    (t.mode ≠ s.mode →
      (∃ ign, i = .arm ign ∨ i = .disarm ign ∨ i = .softReset ign) ∨
      (∃ d : Word, i = .cmdWrite d ∧ (d.extractLsb' 0 4 = 0x1 ∨ d.extractLsb' 0 4 = 0x2 ∨ d.extractLsb' 0 4 = 0xF))) ∧
    (∀ ign, i = .arm ign → s.mode ≠ .armed →
      ((∀ j, ¬ArmCheckFails s.hw s.cfg j) → t.mode = .armed) ∧
      (∀ j, ArmCheckFails s.hw s.cfg j → t.mode = .cfgErr)) ∧
    (∀ ign, i = .arm ign → s.mode = .armed → t.mode = .armed) ∧
    (∀ ign, i = .disarm ign ∨ i = .softReset ign → t.mode = .idle)

/-- 42_frame_synchronizer.md R186 (first sentence), 10_state.md R58, 20_memory.md R74: the bound on Pend at rest. -/
def Obligations.PendIsBounded : Prop :=
  ∀ s : State, Inv s →
    (s.mode = .armed → s.pend.length ≤ max s.cfg.window (s.cfg.maxLength - 1) ∧ s.pend.length < s.hw.bufDepth) ∧
    (s.mode ≠ .armed → s.pend = [])

/-- 42_frame_synchronizer.md R186 (second sentence), R176: on a stream with no header occurrence Pend plateaus at the
window, and the bytes beyond it are counted. -/
def Obligations.NoisePlateausAtWindow : Prop :=
  ∀ (s : State) (bytes : List Byte), Inv s → s.mode = .armed → s.fsm = .seekingHeader → s.pend = [] →
    (∀ p, ¬Matches s.cfg.hdr bytes p) →
    ∃ t : State, Sys2Proof.core.run bytes.length { s with host := hostEvents [.push bytes] } = .next t ∧
      t = { s with host := [], readData := t.readData, pend := t.pend, cntDiscard := t.cntDiscard,
                   irqStatus := t.irqStatus } ∧
      t.pend = bytes.drop (bytes.length - s.cfg.window) ∧ t.pend.length = min bytes.length s.cfg.window ∧
      t.cntDiscard = s.cntDiscard + BitVec.ofNat 32 (bytes.length - s.cfg.window) ∧
      t.irqStatus = (if bytes.length ≤ s.cfg.window then s.irqStatus else s.irqStatus ||| 0x04)

/-- 70_reset_and_hazards.md R300: with room for three words per byte, no record is lost. -/
def Obligations.NoRecordLostWithRoom : Prop :=
  ∀ (s t : State) (data : Word) (ign : BitVec 28), Inv s → s.mode = .armed →
    ((exec (.data8 data) s = .next t ∧ 3 * (s.pend.length + 1) ≤ s.hw.outDepth - s.out.length) ∨
     (exec (.data32 data) s = .next t ∧ 3 * (s.pend.length + 4) ≤ s.hw.outDepth - s.out.length) ∨
     (exec (.flush ign) s = .next t ∧ 3 * s.pend.length ≤ s.hw.outDepth - s.out.length)) →
    t.cntDropped = s.cntDropped ∧ t.irqStatus.getLsbD 3 = s.irqStatus.getLsbD 3

/-- 10_state.md R50, R54, 20_memory.md R73: no instruction's result depends on CrcTable, or on CandLen outside
BODY_PENDING: with other contents everything else comes out the same. (Their reset values are the model's choice, log
entries 6 and 7.) -/
def Obligations.HiddenStateUnobservable : Prop :=
  ∀ (i : Instr) (s t : State) (len : Nat) (table : List Word), exec i s = .next t →
    (∃ t', exec i { s with crcTable := table } = .next t' ∧ t' = { t with crcTable := t'.crcTable }) ∧
    (s.fsm ≠ .bodyPending → ∃ t', exec i { s with candLen := len } = .next t' ∧
      t' = { t with candLen := t'.candLen } ∧ (t.fsm = .bodyPending → t'.candLen = t.candLen))
end

