-- ==== Sys2Proof/Laws/State.lean ====
section
/-! SUPPORT. What each update of the state does to each field: the small lemmas of the updates, so that no later proof
unfolds one. -/

namespace Sys2Proof.Machine

/-! ## setIrq -/

@[simp] theorem setIrq_hw (e : IrqSource) (s : State) : (setIrq e s).hw = s.hw := rfl
@[simp] theorem setIrq_mode (e : IrqSource) (s : State) : (setIrq e s).mode = s.mode := rfl
@[simp] theorem setIrq_fsm (e : IrqSource) (s : State) : (setIrq e s).fsm = s.fsm := rfl
@[simp] theorem setIrq_candLen (e : IrqSource) (s : State) : (setIrq e s).candLen = s.candLen := rfl
@[simp] theorem setIrq_pend (e : IrqSource) (s : State) : (setIrq e s).pend = s.pend := rfl
@[simp] theorem setIrq_out (e : IrqSource) (s : State) : (setIrq e s).out = s.out := rfl
@[simp] theorem setIrq_span (e : IrqSource) (s : State) : (setIrq e s).span = s.span := rfl
@[simp] theorem setIrq_ckValid (e : IrqSource) (s : State) : (setIrq e s).ckValid = s.ckValid := rfl
@[simp] theorem setIrq_ckMatch (e : IrqSource) (s : State) : (setIrq e s).ckMatch = s.ckMatch := rfl
@[simp] theorem setIrq_ckGeomErr (e : IrqSource) (s : State) : (setIrq e s).ckGeomErr = s.ckGeomErr := rfl
@[simp] theorem setIrq_ckOvf (e : IrqSource) (s : State) : (setIrq e s).ckOvf = s.ckOvf := rfl
@[simp] theorem setIrq_cfgErrCode (e : IrqSource) (s : State) : (setIrq e s).cfgErrCode = s.cfgErrCode := rfl
@[simp] theorem setIrq_lastOpErr (e : IrqSource) (s : State) : (setIrq e s).lastOpErr = s.lastOpErr := rfl
@[simp] theorem setIrq_irqStatus (e : IrqSource) (s : State) : (setIrq e s).irqStatus = s.irqStatus ||| e.bit := rfl
@[simp] theorem setIrq_irqEnable (e : IrqSource) (s : State) : (setIrq e s).irqEnable = s.irqEnable := rfl
@[simp] theorem setIrq_cntFrames (e : IrqSource) (s : State) : (setIrq e s).cntFrames = s.cntFrames := rfl
@[simp] theorem setIrq_cntResync (e : IrqSource) (s : State) : (setIrq e s).cntResync = s.cntResync := rfl
@[simp] theorem setIrq_cntDiscard (e : IrqSource) (s : State) : (setIrq e s).cntDiscard = s.cntDiscard := rfl
@[simp] theorem setIrq_cntDropped (e : IrqSource) (s : State) : (setIrq e s).cntDropped = s.cntDropped := rfl
@[simp] theorem setIrq_ckResult (e : IrqSource) (s : State) : (setIrq e s).ckResult = s.ckResult := rfl
@[simp] theorem setIrq_ckStored (e : IrqSource) (s : State) : (setIrq e s).ckStored = s.ckStored := rfl
@[simp] theorem setIrq_cfg (e : IrqSource) (s : State) : (setIrq e s).cfg = s.cfg := rfl
@[simp] theorem setIrq_crcTable (e : IrqSource) (s : State) : (setIrq e s).crcTable = s.crcTable := rfl
@[simp] theorem setIrq_readData (e : IrqSource) (s : State) : (setIrq e s).readData = s.readData := rfl
@[simp] theorem setIrq_host (e : IrqSource) (s : State) : (setIrq e s).host = s.host := rfl

/-! ## raiseOpErr -/

@[simp] theorem raiseOpErr_hw (e : OpError) (s : State) : (raiseOpErr e s).hw = s.hw := rfl
@[simp] theorem raiseOpErr_mode (e : OpError) (s : State) : (raiseOpErr e s).mode = s.mode := rfl
@[simp] theorem raiseOpErr_fsm (e : OpError) (s : State) : (raiseOpErr e s).fsm = s.fsm := rfl
@[simp] theorem raiseOpErr_candLen (e : OpError) (s : State) : (raiseOpErr e s).candLen = s.candLen := rfl
@[simp] theorem raiseOpErr_pend (e : OpError) (s : State) : (raiseOpErr e s).pend = s.pend := rfl
@[simp] theorem raiseOpErr_out (e : OpError) (s : State) : (raiseOpErr e s).out = s.out := rfl
@[simp] theorem raiseOpErr_span (e : OpError) (s : State) : (raiseOpErr e s).span = s.span := rfl
@[simp] theorem raiseOpErr_ckValid (e : OpError) (s : State) : (raiseOpErr e s).ckValid = s.ckValid := rfl
@[simp] theorem raiseOpErr_ckMatch (e : OpError) (s : State) : (raiseOpErr e s).ckMatch = s.ckMatch := rfl
@[simp] theorem raiseOpErr_ckGeomErr (e : OpError) (s : State) : (raiseOpErr e s).ckGeomErr = s.ckGeomErr := rfl
@[simp] theorem raiseOpErr_ckOvf (e : OpError) (s : State) : (raiseOpErr e s).ckOvf = s.ckOvf := rfl
@[simp] theorem raiseOpErr_cfgErrCode (e : OpError) (s : State) : (raiseOpErr e s).cfgErrCode = s.cfgErrCode := rfl
@[simp] theorem raiseOpErr_lastOpErr (e : OpError) (s : State) : (raiseOpErr e s).lastOpErr = e.code := rfl
@[simp] theorem raiseOpErr_irqStatus (e : OpError) (s : State) : (raiseOpErr e s).irqStatus = s.irqStatus ||| 0x20 := rfl
@[simp] theorem raiseOpErr_irqEnable (e : OpError) (s : State) : (raiseOpErr e s).irqEnable = s.irqEnable := rfl
@[simp] theorem raiseOpErr_cntFrames (e : OpError) (s : State) : (raiseOpErr e s).cntFrames = s.cntFrames := rfl
@[simp] theorem raiseOpErr_cntResync (e : OpError) (s : State) : (raiseOpErr e s).cntResync = s.cntResync := rfl
@[simp] theorem raiseOpErr_cntDiscard (e : OpError) (s : State) : (raiseOpErr e s).cntDiscard = s.cntDiscard := rfl
@[simp] theorem raiseOpErr_cntDropped (e : OpError) (s : State) : (raiseOpErr e s).cntDropped = s.cntDropped := rfl
@[simp] theorem raiseOpErr_ckResult (e : OpError) (s : State) : (raiseOpErr e s).ckResult = s.ckResult := rfl
@[simp] theorem raiseOpErr_ckStored (e : OpError) (s : State) : (raiseOpErr e s).ckStored = s.ckStored := rfl
@[simp] theorem raiseOpErr_cfg (e : OpError) (s : State) : (raiseOpErr e s).cfg = s.cfg := rfl
@[simp] theorem raiseOpErr_crcTable (e : OpError) (s : State) : (raiseOpErr e s).crcTable = s.crcTable := rfl
@[simp] theorem raiseOpErr_readData (e : OpError) (s : State) : (raiseOpErr e s).readData = s.readData := rfl
@[simp] theorem raiseOpErr_host (e : OpError) (s : State) : (raiseOpErr e s).host = s.host := rfl

/-! ## raiseCfgErr -/

@[simp] theorem raiseCfgErr_hw (e : CfgError) (s : State) : (raiseCfgErr e s).hw = s.hw := rfl
@[simp] theorem raiseCfgErr_mode (e : CfgError) (s : State) : (raiseCfgErr e s).mode = .cfgErr := rfl
@[simp] theorem raiseCfgErr_fsm (e : CfgError) (s : State) : (raiseCfgErr e s).fsm = s.fsm := rfl
@[simp] theorem raiseCfgErr_candLen (e : CfgError) (s : State) : (raiseCfgErr e s).candLen = s.candLen := rfl
@[simp] theorem raiseCfgErr_pend (e : CfgError) (s : State) : (raiseCfgErr e s).pend = s.pend := rfl
@[simp] theorem raiseCfgErr_out (e : CfgError) (s : State) : (raiseCfgErr e s).out = s.out := rfl
@[simp] theorem raiseCfgErr_span (e : CfgError) (s : State) : (raiseCfgErr e s).span = s.span := rfl
@[simp] theorem raiseCfgErr_ckValid (e : CfgError) (s : State) : (raiseCfgErr e s).ckValid = s.ckValid := rfl
@[simp] theorem raiseCfgErr_ckMatch (e : CfgError) (s : State) : (raiseCfgErr e s).ckMatch = s.ckMatch := rfl
@[simp] theorem raiseCfgErr_ckGeomErr (e : CfgError) (s : State) : (raiseCfgErr e s).ckGeomErr = s.ckGeomErr := rfl
@[simp] theorem raiseCfgErr_ckOvf (e : CfgError) (s : State) : (raiseCfgErr e s).ckOvf = s.ckOvf := rfl
@[simp] theorem raiseCfgErr_cfgErrCode (e : CfgError) (s : State) : (raiseCfgErr e s).cfgErrCode = e.code := rfl
@[simp] theorem raiseCfgErr_lastOpErr (e : CfgError) (s : State) : (raiseCfgErr e s).lastOpErr = s.lastOpErr := rfl
@[simp] theorem raiseCfgErr_irqStatus (e : CfgError) (s : State) : (raiseCfgErr e s).irqStatus = s.irqStatus ||| 0x10 := rfl
@[simp] theorem raiseCfgErr_irqEnable (e : CfgError) (s : State) : (raiseCfgErr e s).irqEnable = s.irqEnable := rfl
@[simp] theorem raiseCfgErr_cntFrames (e : CfgError) (s : State) : (raiseCfgErr e s).cntFrames = s.cntFrames := rfl
@[simp] theorem raiseCfgErr_cntResync (e : CfgError) (s : State) : (raiseCfgErr e s).cntResync = s.cntResync := rfl
@[simp] theorem raiseCfgErr_cntDiscard (e : CfgError) (s : State) : (raiseCfgErr e s).cntDiscard = s.cntDiscard := rfl
@[simp] theorem raiseCfgErr_cntDropped (e : CfgError) (s : State) : (raiseCfgErr e s).cntDropped = s.cntDropped := rfl
@[simp] theorem raiseCfgErr_ckResult (e : CfgError) (s : State) : (raiseCfgErr e s).ckResult = s.ckResult := rfl
@[simp] theorem raiseCfgErr_ckStored (e : CfgError) (s : State) : (raiseCfgErr e s).ckStored = s.ckStored := rfl
@[simp] theorem raiseCfgErr_cfg (e : CfgError) (s : State) : (raiseCfgErr e s).cfg = s.cfg := rfl
@[simp] theorem raiseCfgErr_crcTable (e : CfgError) (s : State) : (raiseCfgErr e s).crcTable = s.crcTable := rfl
@[simp] theorem raiseCfgErr_readData (e : CfgError) (s : State) : (raiseCfgErr e s).readData = s.readData := rfl
@[simp] theorem raiseCfgErr_host (e : CfgError) (s : State) : (raiseCfgErr e s).host = s.host := rfl

/-! ## ackIrq -/

@[simp] theorem ackIrq_hw (b : BitVec 7) (s : State) : (ackIrq b s).hw = s.hw := rfl
@[simp] theorem ackIrq_mode (b : BitVec 7) (s : State) : (ackIrq b s).mode = s.mode := rfl
@[simp] theorem ackIrq_fsm (b : BitVec 7) (s : State) : (ackIrq b s).fsm = s.fsm := rfl
@[simp] theorem ackIrq_candLen (b : BitVec 7) (s : State) : (ackIrq b s).candLen = s.candLen := rfl
@[simp] theorem ackIrq_pend (b : BitVec 7) (s : State) : (ackIrq b s).pend = s.pend := rfl
@[simp] theorem ackIrq_out (b : BitVec 7) (s : State) : (ackIrq b s).out = s.out := rfl
@[simp] theorem ackIrq_span (b : BitVec 7) (s : State) : (ackIrq b s).span = s.span := rfl
@[simp] theorem ackIrq_ckValid (b : BitVec 7) (s : State) : (ackIrq b s).ckValid = s.ckValid := rfl
@[simp] theorem ackIrq_ckMatch (b : BitVec 7) (s : State) : (ackIrq b s).ckMatch = s.ckMatch := rfl
@[simp] theorem ackIrq_ckGeomErr (b : BitVec 7) (s : State) : (ackIrq b s).ckGeomErr = s.ckGeomErr := rfl
@[simp] theorem ackIrq_ckOvf (b : BitVec 7) (s : State) : (ackIrq b s).ckOvf = s.ckOvf := rfl
@[simp] theorem ackIrq_cfgErrCode (b : BitVec 7) (s : State) : (ackIrq b s).cfgErrCode = s.cfgErrCode := rfl
@[simp] theorem ackIrq_lastOpErr (b : BitVec 7) (s : State) : (ackIrq b s).lastOpErr = s.lastOpErr := rfl
@[simp] theorem ackIrq_irqStatus (b : BitVec 7) (s : State) : (ackIrq b s).irqStatus = s.irqStatus &&& ~~~b := rfl
@[simp] theorem ackIrq_irqEnable (b : BitVec 7) (s : State) : (ackIrq b s).irqEnable = s.irqEnable := rfl
@[simp] theorem ackIrq_cntFrames (b : BitVec 7) (s : State) : (ackIrq b s).cntFrames = s.cntFrames := rfl
@[simp] theorem ackIrq_cntResync (b : BitVec 7) (s : State) : (ackIrq b s).cntResync = s.cntResync := rfl
@[simp] theorem ackIrq_cntDiscard (b : BitVec 7) (s : State) : (ackIrq b s).cntDiscard = s.cntDiscard := rfl
@[simp] theorem ackIrq_cntDropped (b : BitVec 7) (s : State) : (ackIrq b s).cntDropped = s.cntDropped := rfl
@[simp] theorem ackIrq_ckResult (b : BitVec 7) (s : State) : (ackIrq b s).ckResult = s.ckResult := rfl
@[simp] theorem ackIrq_ckStored (b : BitVec 7) (s : State) : (ackIrq b s).ckStored = s.ckStored := rfl
@[simp] theorem ackIrq_cfg (b : BitVec 7) (s : State) : (ackIrq b s).cfg = s.cfg := rfl
@[simp] theorem ackIrq_crcTable (b : BitVec 7) (s : State) : (ackIrq b s).crcTable = s.crcTable := rfl
@[simp] theorem ackIrq_readData (b : BitVec 7) (s : State) : (ackIrq b s).readData = s.readData := rfl
@[simp] theorem ackIrq_host (b : BitVec 7) (s : State) : (ackIrq b s).host = s.host := rfl

/-! ## readReturns -/

@[simp] theorem readReturns_hw (v : Word) (s : State) : (readReturns v s).hw = s.hw := rfl
@[simp] theorem readReturns_mode (v : Word) (s : State) : (readReturns v s).mode = s.mode := rfl
@[simp] theorem readReturns_fsm (v : Word) (s : State) : (readReturns v s).fsm = s.fsm := rfl
@[simp] theorem readReturns_candLen (v : Word) (s : State) : (readReturns v s).candLen = s.candLen := rfl
@[simp] theorem readReturns_pend (v : Word) (s : State) : (readReturns v s).pend = s.pend := rfl
@[simp] theorem readReturns_out (v : Word) (s : State) : (readReturns v s).out = s.out := rfl
@[simp] theorem readReturns_span (v : Word) (s : State) : (readReturns v s).span = s.span := rfl
@[simp] theorem readReturns_ckValid (v : Word) (s : State) : (readReturns v s).ckValid = s.ckValid := rfl
@[simp] theorem readReturns_ckMatch (v : Word) (s : State) : (readReturns v s).ckMatch = s.ckMatch := rfl
@[simp] theorem readReturns_ckGeomErr (v : Word) (s : State) : (readReturns v s).ckGeomErr = s.ckGeomErr := rfl
@[simp] theorem readReturns_ckOvf (v : Word) (s : State) : (readReturns v s).ckOvf = s.ckOvf := rfl
@[simp] theorem readReturns_cfgErrCode (v : Word) (s : State) : (readReturns v s).cfgErrCode = s.cfgErrCode := rfl
@[simp] theorem readReturns_lastOpErr (v : Word) (s : State) : (readReturns v s).lastOpErr = s.lastOpErr := rfl
@[simp] theorem readReturns_irqStatus (v : Word) (s : State) : (readReturns v s).irqStatus = s.irqStatus := rfl
@[simp] theorem readReturns_irqEnable (v : Word) (s : State) : (readReturns v s).irqEnable = s.irqEnable := rfl
@[simp] theorem readReturns_cntFrames (v : Word) (s : State) : (readReturns v s).cntFrames = s.cntFrames := rfl
@[simp] theorem readReturns_cntResync (v : Word) (s : State) : (readReturns v s).cntResync = s.cntResync := rfl
@[simp] theorem readReturns_cntDiscard (v : Word) (s : State) : (readReturns v s).cntDiscard = s.cntDiscard := rfl
@[simp] theorem readReturns_cntDropped (v : Word) (s : State) : (readReturns v s).cntDropped = s.cntDropped := rfl
@[simp] theorem readReturns_ckResult (v : Word) (s : State) : (readReturns v s).ckResult = s.ckResult := rfl
@[simp] theorem readReturns_ckStored (v : Word) (s : State) : (readReturns v s).ckStored = s.ckStored := rfl
@[simp] theorem readReturns_cfg (v : Word) (s : State) : (readReturns v s).cfg = s.cfg := rfl
@[simp] theorem readReturns_crcTable (v : Word) (s : State) : (readReturns v s).crcTable = s.crcTable := rfl
@[simp] theorem readReturns_readData (v : Word) (s : State) : (readReturns v s).readData = some v := rfl
@[simp] theorem readReturns_host (v : Word) (s : State) : (readReturns v s).host = s.host := rfl

/-! ## accepting -/

@[simp] theorem accepting_hw (s : State) (rest : List HostEvent) : (s.accepting rest).hw = s.hw := rfl
@[simp] theorem accepting_mode (s : State) (rest : List HostEvent) : (s.accepting rest).mode = s.mode := rfl
@[simp] theorem accepting_fsm (s : State) (rest : List HostEvent) : (s.accepting rest).fsm = s.fsm := rfl
@[simp] theorem accepting_candLen (s : State) (rest : List HostEvent) : (s.accepting rest).candLen = s.candLen := rfl
@[simp] theorem accepting_pend (s : State) (rest : List HostEvent) : (s.accepting rest).pend = s.pend := rfl
@[simp] theorem accepting_out (s : State) (rest : List HostEvent) : (s.accepting rest).out = s.out := rfl
@[simp] theorem accepting_span (s : State) (rest : List HostEvent) : (s.accepting rest).span = s.span := rfl
@[simp] theorem accepting_ckValid (s : State) (rest : List HostEvent) : (s.accepting rest).ckValid = s.ckValid := rfl
@[simp] theorem accepting_ckMatch (s : State) (rest : List HostEvent) : (s.accepting rest).ckMatch = s.ckMatch := rfl
@[simp] theorem accepting_ckGeomErr (s : State) (rest : List HostEvent) : (s.accepting rest).ckGeomErr = s.ckGeomErr := rfl
@[simp] theorem accepting_ckOvf (s : State) (rest : List HostEvent) : (s.accepting rest).ckOvf = s.ckOvf := rfl
@[simp] theorem accepting_cfgErrCode (s : State) (rest : List HostEvent) : (s.accepting rest).cfgErrCode = s.cfgErrCode := rfl
@[simp] theorem accepting_lastOpErr (s : State) (rest : List HostEvent) : (s.accepting rest).lastOpErr = s.lastOpErr := rfl
@[simp] theorem accepting_irqStatus (s : State) (rest : List HostEvent) : (s.accepting rest).irqStatus = s.irqStatus := rfl
@[simp] theorem accepting_irqEnable (s : State) (rest : List HostEvent) : (s.accepting rest).irqEnable = s.irqEnable := rfl
@[simp] theorem accepting_cntFrames (s : State) (rest : List HostEvent) : (s.accepting rest).cntFrames = s.cntFrames := rfl
@[simp] theorem accepting_cntResync (s : State) (rest : List HostEvent) : (s.accepting rest).cntResync = s.cntResync := rfl
@[simp] theorem accepting_cntDiscard (s : State) (rest : List HostEvent) : (s.accepting rest).cntDiscard = s.cntDiscard := rfl
@[simp] theorem accepting_cntDropped (s : State) (rest : List HostEvent) : (s.accepting rest).cntDropped = s.cntDropped := rfl
@[simp] theorem accepting_ckResult (s : State) (rest : List HostEvent) : (s.accepting rest).ckResult = s.ckResult := rfl
@[simp] theorem accepting_ckStored (s : State) (rest : List HostEvent) : (s.accepting rest).ckStored = s.ckStored := rfl
@[simp] theorem accepting_cfg (s : State) (rest : List HostEvent) : (s.accepting rest).cfg = s.cfg := rfl
@[simp] theorem accepting_crcTable (s : State) (rest : List HostEvent) : (s.accepting rest).crcTable = s.crcTable := rfl
@[simp] theorem accepting_readData (s : State) (rest : List HostEvent) : (s.accepting rest).readData = none := rfl
@[simp] theorem accepting_host (s : State) (rest : List HostEvent) : (s.accepting rest).host = rest := rfl

/-! ## resync -/

@[simp] theorem resync_hw (s : State) : (resync s).hw = s.hw := rfl
@[simp] theorem resync_mode (s : State) : (resync s).mode = s.mode := rfl
@[simp] theorem resync_fsm (s : State) : (resync s).fsm = .seekingHeader := rfl
@[simp] theorem resync_candLen (s : State) : (resync s).candLen = s.candLen := rfl
@[simp] theorem resync_pend (s : State) : (resync s).pend = s.pend.drop 1 := rfl
@[simp] theorem resync_out (s : State) : (resync s).out = s.out := rfl
@[simp] theorem resync_span (s : State) : (resync s).span = s.span := rfl
@[simp] theorem resync_ckValid (s : State) : (resync s).ckValid = s.ckValid := rfl
@[simp] theorem resync_ckMatch (s : State) : (resync s).ckMatch = s.ckMatch := rfl
@[simp] theorem resync_ckGeomErr (s : State) : (resync s).ckGeomErr = s.ckGeomErr := rfl
@[simp] theorem resync_ckOvf (s : State) : (resync s).ckOvf = s.ckOvf := rfl
@[simp] theorem resync_cfgErrCode (s : State) : (resync s).cfgErrCode = s.cfgErrCode := rfl
@[simp] theorem resync_lastOpErr (s : State) : (resync s).lastOpErr = s.lastOpErr := rfl
@[simp] theorem resync_irqStatus (s : State) : (resync s).irqStatus = s.irqStatus ||| 0x02 := rfl
@[simp] theorem resync_irqEnable (s : State) : (resync s).irqEnable = s.irqEnable := rfl
@[simp] theorem resync_cntFrames (s : State) : (resync s).cntFrames = s.cntFrames := rfl
@[simp] theorem resync_cntResync (s : State) : (resync s).cntResync = s.cntResync + 1 := rfl
@[simp] theorem resync_cntDiscard (s : State) : (resync s).cntDiscard = s.cntDiscard := rfl
@[simp] theorem resync_cntDropped (s : State) : (resync s).cntDropped = s.cntDropped := rfl
@[simp] theorem resync_ckResult (s : State) : (resync s).ckResult = s.ckResult := rfl
@[simp] theorem resync_ckStored (s : State) : (resync s).ckStored = s.ckStored := rfl
@[simp] theorem resync_cfg (s : State) : (resync s).cfg = s.cfg := rfl
@[simp] theorem resync_crcTable (s : State) : (resync s).crcTable = s.crcTable := rfl
@[simp] theorem resync_readData (s : State) : (resync s).readData = s.readData := rfl
@[simp] theorem resync_host (s : State) : (resync s).host = s.host := rfl

/-! ## discardTo -/

@[simp] theorem discardTo_hw (p : List Byte) (k : Nat) (s : State) : (discardTo p k s).hw = s.hw := rfl
@[simp] theorem discardTo_mode (p : List Byte) (k : Nat) (s : State) : (discardTo p k s).mode = s.mode := rfl
@[simp] theorem discardTo_fsm (p : List Byte) (k : Nat) (s : State) : (discardTo p k s).fsm = s.fsm := rfl
@[simp] theorem discardTo_candLen (p : List Byte) (k : Nat) (s : State) : (discardTo p k s).candLen = s.candLen := rfl
@[simp] theorem discardTo_pend (p : List Byte) (k : Nat) (s : State) : (discardTo p k s).pend = p := rfl
@[simp] theorem discardTo_out (p : List Byte) (k : Nat) (s : State) : (discardTo p k s).out = s.out := rfl
@[simp] theorem discardTo_span (p : List Byte) (k : Nat) (s : State) : (discardTo p k s).span = s.span := rfl
@[simp] theorem discardTo_ckValid (p : List Byte) (k : Nat) (s : State) : (discardTo p k s).ckValid = s.ckValid := rfl
@[simp] theorem discardTo_ckMatch (p : List Byte) (k : Nat) (s : State) : (discardTo p k s).ckMatch = s.ckMatch := rfl
@[simp] theorem discardTo_ckGeomErr (p : List Byte) (k : Nat) (s : State) : (discardTo p k s).ckGeomErr = s.ckGeomErr := rfl
@[simp] theorem discardTo_ckOvf (p : List Byte) (k : Nat) (s : State) : (discardTo p k s).ckOvf = s.ckOvf := rfl
@[simp] theorem discardTo_cfgErrCode (p : List Byte) (k : Nat) (s : State) : (discardTo p k s).cfgErrCode = s.cfgErrCode := rfl
@[simp] theorem discardTo_lastOpErr (p : List Byte) (k : Nat) (s : State) : (discardTo p k s).lastOpErr = s.lastOpErr := rfl
@[simp] theorem discardTo_irqStatus (p : List Byte) (k : Nat) (s : State) : (discardTo p k s).irqStatus = s.irqStatus ||| 0x04 := rfl
@[simp] theorem discardTo_irqEnable (p : List Byte) (k : Nat) (s : State) : (discardTo p k s).irqEnable = s.irqEnable := rfl
@[simp] theorem discardTo_cntFrames (p : List Byte) (k : Nat) (s : State) : (discardTo p k s).cntFrames = s.cntFrames := rfl
@[simp] theorem discardTo_cntResync (p : List Byte) (k : Nat) (s : State) : (discardTo p k s).cntResync = s.cntResync := rfl
@[simp] theorem discardTo_cntDiscard (p : List Byte) (k : Nat) (s : State) : (discardTo p k s).cntDiscard = s.cntDiscard + BitVec.ofNat 32 k := rfl
@[simp] theorem discardTo_cntDropped (p : List Byte) (k : Nat) (s : State) : (discardTo p k s).cntDropped = s.cntDropped := rfl
@[simp] theorem discardTo_ckResult (p : List Byte) (k : Nat) (s : State) : (discardTo p k s).ckResult = s.ckResult := rfl
@[simp] theorem discardTo_ckStored (p : List Byte) (k : Nat) (s : State) : (discardTo p k s).ckStored = s.ckStored := rfl
@[simp] theorem discardTo_cfg (p : List Byte) (k : Nat) (s : State) : (discardTo p k s).cfg = s.cfg := rfl
@[simp] theorem discardTo_crcTable (p : List Byte) (k : Nat) (s : State) : (discardTo p k s).crcTable = s.crcTable := rfl
@[simp] theorem discardTo_readData (p : List Byte) (k : Nat) (s : State) : (discardTo p k s).readData = s.readData := rfl
@[simp] theorem discardTo_host (p : List Byte) (k : Nat) (s : State) : (discardTo p k s).host = s.host := rfl

/-! ## clearCk -/

@[simp] theorem clearCk_hw (s : State) : (clearCk s).hw = s.hw := rfl
@[simp] theorem clearCk_mode (s : State) : (clearCk s).mode = s.mode := rfl
@[simp] theorem clearCk_fsm (s : State) : (clearCk s).fsm = s.fsm := rfl
@[simp] theorem clearCk_candLen (s : State) : (clearCk s).candLen = s.candLen := rfl
@[simp] theorem clearCk_pend (s : State) : (clearCk s).pend = s.pend := rfl
@[simp] theorem clearCk_out (s : State) : (clearCk s).out = s.out := rfl
@[simp] theorem clearCk_span (s : State) : (clearCk s).span = [] := rfl
@[simp] theorem clearCk_ckValid (s : State) : (clearCk s).ckValid = false := rfl
@[simp] theorem clearCk_ckMatch (s : State) : (clearCk s).ckMatch = false := rfl
@[simp] theorem clearCk_ckGeomErr (s : State) : (clearCk s).ckGeomErr = false := rfl
@[simp] theorem clearCk_ckOvf (s : State) : (clearCk s).ckOvf = false := rfl
@[simp] theorem clearCk_cfgErrCode (s : State) : (clearCk s).cfgErrCode = s.cfgErrCode := rfl
@[simp] theorem clearCk_lastOpErr (s : State) : (clearCk s).lastOpErr = s.lastOpErr := rfl
@[simp] theorem clearCk_irqStatus (s : State) : (clearCk s).irqStatus = s.irqStatus := rfl
@[simp] theorem clearCk_irqEnable (s : State) : (clearCk s).irqEnable = s.irqEnable := rfl
@[simp] theorem clearCk_cntFrames (s : State) : (clearCk s).cntFrames = s.cntFrames := rfl
@[simp] theorem clearCk_cntResync (s : State) : (clearCk s).cntResync = s.cntResync := rfl
@[simp] theorem clearCk_cntDiscard (s : State) : (clearCk s).cntDiscard = s.cntDiscard := rfl
@[simp] theorem clearCk_cntDropped (s : State) : (clearCk s).cntDropped = s.cntDropped := rfl
@[simp] theorem clearCk_ckResult (s : State) : (clearCk s).ckResult = 0 := rfl
@[simp] theorem clearCk_ckStored (s : State) : (clearCk s).ckStored = 0 := rfl
@[simp] theorem clearCk_cfg (s : State) : (clearCk s).cfg = s.cfg := rfl
@[simp] theorem clearCk_crcTable (s : State) : (clearCk s).crcTable = s.crcTable := rfl
@[simp] theorem clearCk_readData (s : State) : (clearCk s).readData = s.readData := rfl
@[simp] theorem clearCk_host (s : State) : (clearCk s).host = s.host := rfl

/-! ## armSession -/

@[simp] theorem armSession_hw (s : State) : (armSession s).hw = s.hw := rfl
@[simp] theorem armSession_mode (s : State) : (armSession s).mode = .armed := rfl
@[simp] theorem armSession_fsm (s : State) : (armSession s).fsm = .seekingHeader := rfl
@[simp] theorem armSession_candLen (s : State) : (armSession s).candLen = s.candLen := rfl
@[simp] theorem armSession_pend (s : State) : (armSession s).pend = [] := rfl
@[simp] theorem armSession_out (s : State) : (armSession s).out = [] := rfl
@[simp] theorem armSession_span (s : State) : (armSession s).span = [] := rfl
@[simp] theorem armSession_ckValid (s : State) : (armSession s).ckValid = false := rfl
@[simp] theorem armSession_ckMatch (s : State) : (armSession s).ckMatch = false := rfl
@[simp] theorem armSession_ckGeomErr (s : State) : (armSession s).ckGeomErr = false := rfl
@[simp] theorem armSession_ckOvf (s : State) : (armSession s).ckOvf = false := rfl
@[simp] theorem armSession_cfgErrCode (s : State) : (armSession s).cfgErrCode = 0 := rfl
@[simp] theorem armSession_lastOpErr (s : State) : (armSession s).lastOpErr = s.lastOpErr := rfl
@[simp] theorem armSession_irqStatus (s : State) : (armSession s).irqStatus = s.irqStatus := rfl
@[simp] theorem armSession_irqEnable (s : State) : (armSession s).irqEnable = s.irqEnable := rfl
@[simp] theorem armSession_cntFrames (s : State) : (armSession s).cntFrames = 0 := rfl
@[simp] theorem armSession_cntResync (s : State) : (armSession s).cntResync = 0 := rfl
@[simp] theorem armSession_cntDiscard (s : State) : (armSession s).cntDiscard = 0 := rfl
@[simp] theorem armSession_cntDropped (s : State) : (armSession s).cntDropped = 0 := rfl
@[simp] theorem armSession_ckResult (s : State) : (armSession s).ckResult = 0 := rfl
@[simp] theorem armSession_ckStored (s : State) : (armSession s).ckStored = 0 := rfl
@[simp] theorem armSession_cfg (s : State) : (armSession s).cfg = s.cfg := rfl
@[simp] theorem armSession_crcTable (s : State) : (armSession s).crcTable = s.cfg.crcTableWords.getD s.crcTable := rfl
@[simp] theorem armSession_readData (s : State) : (armSession s).readData = s.readData := rfl
@[simp] theorem armSession_host (s : State) : (armSession s).host = s.host := rfl

/-! ## emit: the fields a record does not touch -/

@[simp] theorem emit_hw (ws : List Word) (s : State) : (emit ws s).hw = s.hw := by
  unfold emit; split <;> rfl
@[simp] theorem emit_mode (ws : List Word) (s : State) : (emit ws s).mode = s.mode := by
  unfold emit; split <;> rfl
@[simp] theorem emit_fsm (ws : List Word) (s : State) : (emit ws s).fsm = s.fsm := by
  unfold emit; split <;> rfl
@[simp] theorem emit_candLen (ws : List Word) (s : State) : (emit ws s).candLen = s.candLen := by
  unfold emit; split <;> rfl
@[simp] theorem emit_pend (ws : List Word) (s : State) : (emit ws s).pend = s.pend := by
  unfold emit; split <;> rfl
@[simp] theorem emit_span (ws : List Word) (s : State) : (emit ws s).span = s.span := by
  unfold emit; split <;> rfl
@[simp] theorem emit_ckValid (ws : List Word) (s : State) : (emit ws s).ckValid = s.ckValid := by
  unfold emit; split <;> rfl
@[simp] theorem emit_ckMatch (ws : List Word) (s : State) : (emit ws s).ckMatch = s.ckMatch := by
  unfold emit; split <;> rfl
@[simp] theorem emit_ckGeomErr (ws : List Word) (s : State) : (emit ws s).ckGeomErr = s.ckGeomErr := by
  unfold emit; split <;> rfl
@[simp] theorem emit_ckOvf (ws : List Word) (s : State) : (emit ws s).ckOvf = s.ckOvf := by
  unfold emit; split <;> rfl
@[simp] theorem emit_cfgErrCode (ws : List Word) (s : State) : (emit ws s).cfgErrCode = s.cfgErrCode := by
  unfold emit; split <;> rfl
@[simp] theorem emit_lastOpErr (ws : List Word) (s : State) : (emit ws s).lastOpErr = s.lastOpErr := by
  unfold emit; split <;> rfl
@[simp] theorem emit_irqEnable (ws : List Word) (s : State) : (emit ws s).irqEnable = s.irqEnable := by
  unfold emit; split <;> rfl
@[simp] theorem emit_cntFrames (ws : List Word) (s : State) : (emit ws s).cntFrames = s.cntFrames := by
  unfold emit; split <;> rfl
@[simp] theorem emit_cntResync (ws : List Word) (s : State) : (emit ws s).cntResync = s.cntResync := by
  unfold emit; split <;> rfl
@[simp] theorem emit_cntDiscard (ws : List Word) (s : State) : (emit ws s).cntDiscard = s.cntDiscard := by
  unfold emit; split <;> rfl
@[simp] theorem emit_ckResult (ws : List Word) (s : State) : (emit ws s).ckResult = s.ckResult := by
  unfold emit; split <;> rfl
@[simp] theorem emit_ckStored (ws : List Word) (s : State) : (emit ws s).ckStored = s.ckStored := by
  unfold emit; split <;> rfl
@[simp] theorem emit_cfg (ws : List Word) (s : State) : (emit ws s).cfg = s.cfg := by
  unfold emit; split <;> rfl
@[simp] theorem emit_crcTable (ws : List Word) (s : State) : (emit ws s).crcTable = s.crcTable := by
  unfold emit; split <;> rfl
@[simp] theorem emit_readData (ws : List Word) (s : State) : (emit ws s).readData = s.readData := by
  unfold emit; split <;> rfl
@[simp] theorem emit_host (ws : List Word) (s : State) : (emit ws s).host = s.host := by
  unfold emit; split <;> rfl

/-! ## emitFrame -/

@[simp] theorem emitFrame_hw (len : Nat) (s : State) : (emitFrame len s).hw =
    s.hw := by simp [emitFrame]
@[simp] theorem emitFrame_mode (len : Nat) (s : State) : (emitFrame len s).mode =
    s.mode := by simp [emitFrame]
@[simp] theorem emitFrame_fsm (len : Nat) (s : State) : (emitFrame len s).fsm =
    .seekingHeader := rfl
@[simp] theorem emitFrame_candLen (len : Nat) (s : State) : (emitFrame len s).candLen =
    s.candLen := by simp [emitFrame]
@[simp] theorem emitFrame_pend (len : Nat) (s : State) : (emitFrame len s).pend =
    s.pend.drop len := rfl
@[simp] theorem emitFrame_out (len : Nat) (s : State) : (emitFrame len s).out =
    (emit (frameRecord (s.pend.take len)) s).out := rfl
@[simp] theorem emitFrame_span (len : Nat) (s : State) : (emitFrame len s).span =
    s.span := by simp [emitFrame]
@[simp] theorem emitFrame_ckValid (len : Nat) (s : State) : (emitFrame len s).ckValid =
    s.ckValid := by simp [emitFrame]
@[simp] theorem emitFrame_ckMatch (len : Nat) (s : State) : (emitFrame len s).ckMatch =
    s.ckMatch := by simp [emitFrame]
@[simp] theorem emitFrame_ckGeomErr (len : Nat) (s : State) : (emitFrame len s).ckGeomErr =
    s.ckGeomErr := by simp [emitFrame]
@[simp] theorem emitFrame_ckOvf (len : Nat) (s : State) : (emitFrame len s).ckOvf =
    s.ckOvf := by simp [emitFrame]
@[simp] theorem emitFrame_cfgErrCode (len : Nat) (s : State) : (emitFrame len s).cfgErrCode =
    s.cfgErrCode := by simp [emitFrame]
@[simp] theorem emitFrame_lastOpErr (len : Nat) (s : State) : (emitFrame len s).lastOpErr =
    s.lastOpErr := by simp [emitFrame]
@[simp] theorem emitFrame_irqStatus (len : Nat) (s : State) : (emitFrame len s).irqStatus =
    (emit (frameRecord (s.pend.take len)) s).irqStatus ||| 0x01 := rfl
@[simp] theorem emitFrame_irqEnable (len : Nat) (s : State) : (emitFrame len s).irqEnable =
    s.irqEnable := by simp [emitFrame]
@[simp] theorem emitFrame_cntFrames (len : Nat) (s : State) : (emitFrame len s).cntFrames =
    s.cntFrames + 1 := rfl
@[simp] theorem emitFrame_cntResync (len : Nat) (s : State) : (emitFrame len s).cntResync =
    s.cntResync := by simp [emitFrame]
@[simp] theorem emitFrame_cntDiscard (len : Nat) (s : State) : (emitFrame len s).cntDiscard =
    s.cntDiscard := by simp [emitFrame]
@[simp] theorem emitFrame_cntDropped (len : Nat) (s : State) : (emitFrame len s).cntDropped =
    (emit (frameRecord (s.pend.take len)) s).cntDropped := rfl
@[simp] theorem emitFrame_ckResult (len : Nat) (s : State) : (emitFrame len s).ckResult =
    s.ckResult := by simp [emitFrame]
@[simp] theorem emitFrame_ckStored (len : Nat) (s : State) : (emitFrame len s).ckStored =
    s.ckStored := by simp [emitFrame]
@[simp] theorem emitFrame_cfg (len : Nat) (s : State) : (emitFrame len s).cfg =
    s.cfg := by simp [emitFrame]
@[simp] theorem emitFrame_crcTable (len : Nat) (s : State) : (emitFrame len s).crcTable =
    s.crcTable := by simp [emitFrame]
@[simp] theorem emitFrame_readData (len : Nat) (s : State) : (emitFrame len s).readData =
    s.readData := by simp [emitFrame]
@[simp] theorem emitFrame_host (len : Nat) (s : State) : (emitFrame len s).host =
    s.host := by simp [emitFrame]

/-! ## windowGuard: the fields it does not touch -/

@[simp] theorem windowGuard_hw (s : State) : (windowGuard s).hw = s.hw := by
  unfold windowGuard; split <;> rfl
@[simp] theorem windowGuard_mode (s : State) : (windowGuard s).mode = s.mode := by
  unfold windowGuard; split <;> rfl
@[simp] theorem windowGuard_fsm (s : State) : (windowGuard s).fsm = s.fsm := by
  unfold windowGuard; split <;> rfl
@[simp] theorem windowGuard_candLen (s : State) : (windowGuard s).candLen = s.candLen := by
  unfold windowGuard; split <;> rfl
@[simp] theorem windowGuard_out (s : State) : (windowGuard s).out = s.out := by
  unfold windowGuard; split <;> rfl
@[simp] theorem windowGuard_span (s : State) : (windowGuard s).span = s.span := by
  unfold windowGuard; split <;> rfl
@[simp] theorem windowGuard_ckValid (s : State) : (windowGuard s).ckValid = s.ckValid := by
  unfold windowGuard; split <;> rfl
@[simp] theorem windowGuard_ckMatch (s : State) : (windowGuard s).ckMatch = s.ckMatch := by
  unfold windowGuard; split <;> rfl
@[simp] theorem windowGuard_ckGeomErr (s : State) : (windowGuard s).ckGeomErr = s.ckGeomErr := by
  unfold windowGuard; split <;> rfl
@[simp] theorem windowGuard_ckOvf (s : State) : (windowGuard s).ckOvf = s.ckOvf := by
  unfold windowGuard; split <;> rfl
@[simp] theorem windowGuard_cfgErrCode (s : State) : (windowGuard s).cfgErrCode = s.cfgErrCode := by
  unfold windowGuard; split <;> rfl
@[simp] theorem windowGuard_lastOpErr (s : State) : (windowGuard s).lastOpErr = s.lastOpErr := by
  unfold windowGuard; split <;> rfl
@[simp] theorem windowGuard_irqEnable (s : State) : (windowGuard s).irqEnable = s.irqEnable := by
  unfold windowGuard; split <;> rfl
@[simp] theorem windowGuard_cntFrames (s : State) : (windowGuard s).cntFrames = s.cntFrames := by
  unfold windowGuard; split <;> rfl
@[simp] theorem windowGuard_cntResync (s : State) : (windowGuard s).cntResync = s.cntResync := by
  unfold windowGuard; split <;> rfl
@[simp] theorem windowGuard_cntDropped (s : State) : (windowGuard s).cntDropped = s.cntDropped := by
  unfold windowGuard; split <;> rfl
@[simp] theorem windowGuard_ckResult (s : State) : (windowGuard s).ckResult = s.ckResult := by
  unfold windowGuard; split <;> rfl
@[simp] theorem windowGuard_ckStored (s : State) : (windowGuard s).ckStored = s.ckStored := by
  unfold windowGuard; split <;> rfl
@[simp] theorem windowGuard_cfg (s : State) : (windowGuard s).cfg = s.cfg := by
  unfold windowGuard; split <;> rfl
@[simp] theorem windowGuard_crcTable (s : State) : (windowGuard s).crcTable = s.crcTable := by
  unfold windowGuard; split <;> rfl
@[simp] theorem windowGuard_readData (s : State) : (windowGuard s).readData = s.readData := by
  unfold windowGuard; split <;> rfl
@[simp] theorem windowGuard_host (s : State) : (windowGuard s).host = s.host := by
  unfold windowGuard; split <;> rfl

/-! ## resetBlock -/

@[simp] theorem resetBlock_hw (s : State) : (resetBlock s).hw = s.hw := rfl
@[simp] theorem resetBlock_mode (s : State) : (resetBlock s).mode = .idle := rfl
@[simp] theorem resetBlock_fsm (s : State) : (resetBlock s).fsm = .seekingHeader := rfl
@[simp] theorem resetBlock_pend (s : State) : (resetBlock s).pend = [] := rfl
@[simp] theorem resetBlock_out (s : State) : (resetBlock s).out = [] := rfl
@[simp] theorem resetBlock_span (s : State) : (resetBlock s).span = [] := rfl
@[simp] theorem resetBlock_cfg (s : State) : (resetBlock s).cfg = State.zeroCfg := rfl
@[simp] theorem resetBlock_irqStatus (s : State) : (resetBlock s).irqStatus = 0 := rfl
@[simp] theorem resetBlock_irqEnable (s : State) : (resetBlock s).irqEnable = 0 := rfl
@[simp] theorem resetBlock_host (s : State) : (resetBlock s).host = s.host := rfl
@[simp] theorem resetBlock_readData (s : State) : (resetBlock s).readData = none := rfl

/-! ## The CL registers by name -/

/-- A register written reads back, and every other keeps its value. -/
theorem ClRegs.get_set (c : ClRegs) (r r' : ClReg) (v : Word) :
    (c.set r v).get r' = if r' = r then v else c.get r' := by
  cases r <;> cases r' <;> simp [ClRegs.set, ClRegs.get, Vector.getElem_set, Fin.ext_iff, eq_comm] <;>
    split_ifs <;> simp_all

/-- The register written reads back. -/
@[simp] theorem ClRegs.get_set_same (c : ClRegs) (r : ClReg) (v : Word) : (c.set r v).get r = v := by
  simp [ClRegs.get_set]

/-- Another register keeps its value. -/
theorem ClRegs.get_set_ne (c : ClRegs) {r r' : ClReg} (v : Word) (h : r' ≠ r) : (c.set r v).get r' = c.get r' := by
  simp [ClRegs.get_set, h]

end Sys2Proof.Machine
end

