-- ==== Sys2Proof/Laws/Ops.lean ====
section
/-! SUPPORT. One lemma per shared operation that says once everything it can do. -/

namespace Sys2Proof.Machine

/-! ## Byte order and packing -/

/-- A byte sequence denotes a number below 256 to its length. -/
theorem leNat_lt (bs : List Byte) : leNat bs < 256 ^ bs.length := by
  induction bs with
  | nil => simp [leNat]
  | cons b bs ih =>
    have hb := b.isLt
    simp only [leNat, List.length_cons, pow_succ]
    omega

/-- Lane k of a word made of lanes. -/
theorem lane_ofLanes (b0 b1 b2 b3 : Byte) :
    lane (ofLanes b0 b1 b2 b3) 0 = b0 ∧ lane (ofLanes b0 b1 b2 b3) 1 = b1 ∧
    lane (ofLanes b0 b1 b2 b3) 2 = b2 ∧ lane (ofLanes b0 b1 b2 b3) 3 = b3 := by
  have key : ∀ j, (ofLanes b0 b1 b2 b3).getLsbD j =
      if j < 8 then b0.getLsbD j else if j - 8 < 8 then b1.getLsbD (j - 8)
      else if j - 8 - 8 < 8 then b2.getLsbD (j - 8 - 8) else b3.getLsbD (j - 8 - 8 - 8) := by
    intro j
    unfold ofLanes
    erw [BitVec.getLsbD_append, BitVec.getLsbD_append, BitVec.getLsbD_append]
  refine ⟨?_, ?_, ?_, ?_⟩ <;> apply BitVec.eq_of_getLsbD_eq <;> intro i hi <;>
    simp only [lane, BitVec.getLsbD_extractLsb', hi, decide_true, Bool.true_and, key] <;>
    split_ifs <;> first | omega | (congr 1; omega)

/-- The payload has one word for every four bytes begun (30_encoding.md R89). -/
theorem packWords_length (bs : List Byte) : (packWords bs).length = (bs.length + 3) / 4 := by
  induction bs using packWords.induct with
  | case1 => rfl
  | case2 => simp [packWords]
  | case3 => simp [packWords]
  | case4 => simp [packWords]
  | case5 b0 b1 b2 b3 rest ih => simp only [packWords, List.length_cons, ih]; omega

/-- A FRAME record's size (30_encoding.md R93). -/
theorem frameRecord_length (frame : List Byte) :
    (frameRecord frame).length = 1 + (frame.length + 3) / 4 := by
  simp [frameRecord, packWords_length, Nat.add_comm]

/-! ## The output FIFO -/

/-- A record is appended whole if it fits, else dropped, counted and reported (42_frame_synchronizer.md R181). -/
theorem emit_cases (ws : List Word) (s : State) :
    (ws.length ≤ s.hw.outDepth - s.out.length ∧ emit ws s = { s with out := s.out ++ ws }) ∨
    (s.hw.outDepth - s.out.length < ws.length ∧
      emit ws s = { s with cntDropped := s.cntDropped + 1, irqStatus := s.irqStatus ||| 0x08 }) := by
  unfold emit
  split
  · exact .inl ⟨‹_›, rfl⟩
  · exact .inr ⟨by omega, rfl⟩

/-- A record never makes Out longer than OUT_DEPTH. -/
theorem emit_outFits (ws : List Word) (s : State) (h : s.out.length ≤ s.hw.outDepth) :
    (emit ws s).out.length ≤ s.hw.outDepth := by
  rcases emit_cases ws s with ⟨hl, he⟩ | ⟨_, he⟩ <;> rw [he]
  · simp; omega
  · exact h

/-- A record only sets interrupt bits. -/
theorem emit_irqStatus_grows (ws : List Word) (s : State) :
    s.irqStatus &&& (emit ws s).irqStatus = s.irqStatus := by
  rcases emit_cases ws s with ⟨_, he⟩ | ⟨_, he⟩ <;> rw [he]
  · simp
  · ext i hi; simp only [BitVec.getElem_and, BitVec.getElem_or]; cases s.irqStatus[i] <;> rfl

/-! ## Register writes -/

/-- A write to a CL register (44_bus_operations.md R231, 10_state.md R43). -/
theorem writeCl_cases (r : ClReg) (d : Word) (s : State) :
    (s.mode = .armed ∧ writeCl r d s = { s with lastOpErr := 5, irqStatus := s.irqStatus ||| 0x20 }) ∨
    (s.mode ≠ .armed ∧ writeCl r d s = { s with cfg := s.cfg.set r (d &&& r.mask) }) := by
  unfold writeCl
  split
  · exact .inl ⟨‹_›, rfl⟩
  · exact .inr ⟨‹_›, rfl⟩

/-- A write to a slice-table register (44_bus_operations.md R231, R232). -/
theorem writeXs_cases (r : ClReg) (d : Word) (s : State) :
    (r.present s.hw = true ∧ writeXs r d s = writeCl r d s) ∨ (r.present s.hw = false ∧ writeXs r d s = s) := by
  unfold writeXs
  split
  · exact .inl ⟨‹_›, rfl⟩
  · exact .inr ⟨by simp_all, rfl⟩

/-! ## The checksum port -/

/-- A byte pushed into Span (44_bus_operations.md R237). -/
theorem ckPushByte_cases (b : Byte) (s : State) :
    (s.mode ≠ .armed ∧ ckPushByte b s = { s with lastOpErr := 3, irqStatus := s.irqStatus ||| 0x20 }) ∨
    (s.mode = .armed ∧ s.span.length = s.hw.ckSpanDepth ∧
      ckPushByte b s = { s with ckOvf := true, lastOpErr := 4, irqStatus := s.irqStatus ||| 0x20 }) ∨
    (s.mode = .armed ∧ s.span.length ≠ s.hw.ckSpanDepth ∧ ckPushByte b s = { s with span := s.span ++ [b] }) := by
  unfold ckPushByte
  split
  · exact .inl ⟨‹_›, rfl⟩
  · split
    · exact .inr (.inl ⟨by simp_all, ‹_›, rfl⟩)
    · exact .inr (.inr ⟨by simp_all, ‹_›, rfl⟩)

/-! ## ARM's checks -/

/-- No check of ARM fails exactly when each of the eight holds (43_commands.md R201). -/
theorem armError_eq_none (hw : HwParams) (c : ClRegs) :
    armError hw c = none ↔
      typeUnsupported hw c = false ∧ headerBad hw c = false ∧ maxLenBad hw c = false ∧ windowBad hw c = false ∧
      lengthBad c = false ∧ storeBad c = false ∧ slicesBad hw c = false ∧ geometryBad c = false := by
  unfold armError
  split_ifs <;> simp_all

/-- TYPE's code and the family it names (30_encoding.md R84). -/
theorem family_iff (c : ClRegs) :
    (c.family = none ↔ 5 ≤ c.ckType.toNat) ∧ (c.family = some .cs15 ↔ c.ckType.toNat = 1) ∧
    (c.family = some .xor16 ↔ c.ckType.toNat = 2) := by
  unfold ClRegs.family
  generalize c.ckType = x
  revert x
  decide

/-- Each of ARM's checks is the rule's (43_commands.md R201). -/
theorem armChecks_iff (hw : HwParams) (c : ClRegs) :
    (typeUnsupported hw c = true ↔ ArmCheckFails hw c 1) ∧ (headerBad hw c = true ↔ ArmCheckFails hw c 2) ∧
    (maxLenBad hw c = true ↔ ArmCheckFails hw c 3) ∧ (windowBad hw c = true ↔ ArmCheckFails hw c 4) ∧
    (lengthBad c = true ↔ ArmCheckFails hw c 5) ∧ (storeBad c = true ↔ ArmCheckFails hw c 6) ∧
    (slicesBad hw c = true ↔ ArmCheckFails hw c 7) ∧ (geometryBad c = true ↔ ArmCheckFails hw c 8) := by
  obtain ⟨h1, h2, h3⟩ := family_iff c
  refine ⟨?_, ?_, ?_, ?_, ?_, ?_, ?_, ?_⟩
  · simp [typeUnsupported, ArmCheckFails, h1, h2]
  · simp [headerBad, ArmCheckFails]
  · simp [maxLenBad, ArmCheckFails, or_assoc]
  · simp [windowBad, ArmCheckFails]
  · simp only [lengthBad, ArmCheckFails]
    cases c.dynamic <;> simp
  · simp only [storeBad, ArmCheckFails]
    cases c.family <;> simp
  · simp only [slicesBad, ArmCheckFails, ← h3, Bool.and_eq_true, decide_eq_true_eq, Bool.or_eq_true,
      List.any_eq_true, or_assoc]
    refine and_congr_right fun _ => or_congr_right (or_congr_right ?_)
    simp only [ClRegs.usedSlices, List.mem_iff_getElem?, List.getElem?_take]
    constructor
    · rintro ⟨x, ⟨i, hi⟩, hx⟩
      split at hi
      · exact ⟨i, x, ‹_›, hi, hx⟩
      · cases hi
    · rintro ⟨i, x, h, hi, hx⟩
      exact ⟨x, ⟨i, by rw [if_pos h]; exact hi⟩, hx⟩
  · simp [geometryBad, ArmCheckFails]

/-- What a configuration that passed ARM guarantees to the synchronizer and the engine. -/
structure ConfigFacts (hw : HwParams) (c : ClRegs) : Prop where
  family : ∃ f, c.family = some f ∧ f.resultBytes ≤ c.sw
  hdrPos : 1 ≤ c.hdrLen
  hdrMax : c.hdrLen ≤ hw.hdrMax
  maxLen : c.hdrLen ≤ c.maxLength ∧ c.maxLength ≤ hw.bufDepth
  records : 3 ≤ hw.outDepth ∧ 1 + (c.maxLength + 3) / 4 ≤ hw.outDepth
  window : c.hdrLen ≤ c.window ∧ c.window < hw.bufDepth
  dynamic : c.dynamic = true → c.lenOff + c.lw ≤ c.maxLength
  fixed : c.dynamic = false →
    c.hdrLen ≤ c.fixedLength ∧ c.fixedLength ≤ c.maxLength ∧ c.ckGeom c.fixedLength = true

/-- ARM's checks give those facts (43_commands.md R201). -/
theorem ConfigFacts.of_armError {hw : HwParams} {c : ClRegs} (h : armError hw c = none) : ConfigFacts hw c := by
  obtain ⟨h1, h2, h3, h4, h5, h6, -, h8⟩ := (armError_eq_none hw c).1 h
  simp only [typeUnsupported, headerBad, maxLenBad, windowBad, Bool.or_eq_false_iff, decide_eq_false_iff_not] at h1 h2 h3 h4
  obtain ⟨hf, -⟩ := h1
  obtain ⟨f, hf⟩ := Option.ne_none_iff_exists'.1 hf
  simp only [storeBad, hf, Option.any_some, Bool.or_eq_false_iff, decide_eq_false_iff_not] at h6
  refine ⟨⟨f, hf, by omega⟩, by omega, by omega, by omega, by omega, by omega, fun hd => ?_, fun hd => ?_⟩
  · simp only [lengthBad, hd, if_true, Bool.or_eq_false_iff, decide_eq_false_iff_not] at h5
    omega
  · simp only [lengthBad, hd, Bool.or_eq_false_iff, decide_eq_false_iff_not, if_false, Bool.false_eq_true] at h5
    simp only [geometryBad, hd, Bool.not_false, Bool.true_and, Bool.not_eq_false'] at h8
    exact ⟨by omega, by omega, h8⟩

/-! ## The engine -/

/-- With a supported TYPE and a geometry that fits, Verify answers. -/
theorem verify_isSome {c : ClRegs} {f : CkFamily} (hf : c.family = some f) (frame : List Byte)
    (hg : c.ckGeom frame.length = true) : ∃ v, c.verify frame = some v := by
  simp [ClRegs.verify, ClRegs.value, hf, hg]

end Sys2Proof.Machine
end

