-- ==== Sys2Proof/Laws/PerInstr.lean ====
section
/-! SUPPORT. Statements about every instruction as syntax, one lemma per constructor. -/

namespace Sys2Proof.Laws

/-- A read at an aligned offset is an access the bus accepts (20_memory.md R64). -/
theorem read_accepted (off : BitVec 12) (h : (off.extractLsb' 0 2 == 0#2) = true) :
    (BusOp.read off).toAccess.toBusOp = .ok (.read off) := by
  have hlt := off.isLt
  have h4 : off.toNat % 4 = 0 := by simpa using congrArg BitVec.toNat (beq_iff_eq.1 h)
  simp [BusOp.toAccess, Access.toBusOp, h4]
  omega

/-- A write at an aligned offset is an access the bus accepts (20_memory.md R64). -/
theorem write_accepted (off : BitVec 12) (data : Word) (h : (off.extractLsb' 0 2 == 0#2) = true) :
    (BusOp.write off data).toAccess.toBusOp = .ok (.write off data) := by
  have hlt := off.isLt
  have h4 : off.toNat % 4 = 0 := by simpa using congrArg BitVec.toNat (beq_iff_eq.1 h)
  simp [BusOp.toAccess, Access.toBusOp, h4]
  omega

/-- A bus operation issued at an aligned offset is an access the bus accepts (20_memory.md R64). -/
theorem toBusOp_toAccess (op : BusOp) (h : op.aligned = true) : op.toAccess.toBusOp = .ok op := by
  cases op with
  | read off => exact read_accepted off h
  | write off data => exact write_accepted off data h

/-- The encoding of a well-formed instruction is an access the bus accepts: 32 bits wide, 4-byte aligned, in the window
(20_memory.md R64, 30_encoding.md R81). -/
def EncodedWord.Statement (i : Instr) : Prop :=
  i.wellFormed = true → ∃ op, (encode i).toAccess.toBusOp = .ok op

theorem EncodedWord.nop (ign : BitVec 28) : EncodedWord.Statement (.nop ign) := fun _ =>
  ⟨_, write_accepted _ _ (by decide)⟩

theorem EncodedWord.arm (ign : BitVec 28) : EncodedWord.Statement (.arm ign) := fun _ =>
  ⟨_, write_accepted _ _ (by decide)⟩

theorem EncodedWord.disarm (ign : BitVec 28) : EncodedWord.Statement (.disarm ign) := fun _ =>
  ⟨_, write_accepted _ _ (by decide)⟩

theorem EncodedWord.flush (ign : BitVec 28) : EncodedWord.Statement (.flush ign) := fun _ =>
  ⟨_, write_accepted _ _ (by decide)⟩

theorem EncodedWord.ckInit (ign : BitVec 28) : EncodedWord.Statement (.ckInit ign) := fun _ =>
  ⟨_, write_accepted _ _ (by decide)⟩

theorem EncodedWord.ckCompute (ign : BitVec 28) : EncodedWord.Statement (.ckCompute ign) := fun _ =>
  ⟨_, write_accepted _ _ (by decide)⟩

theorem EncodedWord.ckVerify (ign : BitVec 28) : EncodedWord.Statement (.ckVerify ign) := fun _ =>
  ⟨_, write_accepted _ _ (by decide)⟩

theorem EncodedWord.reserved7 (ign : BitVec 28) : EncodedWord.Statement (.reserved7 ign) := fun _ =>
  ⟨_, write_accepted _ _ (by decide)⟩

theorem EncodedWord.reserved8 (ign : BitVec 28) : EncodedWord.Statement (.reserved8 ign) := fun _ =>
  ⟨_, write_accepted _ _ (by decide)⟩

theorem EncodedWord.reserved9 (ign : BitVec 28) : EncodedWord.Statement (.reserved9 ign) := fun _ =>
  ⟨_, write_accepted _ _ (by decide)⟩

theorem EncodedWord.reservedA (ign : BitVec 28) : EncodedWord.Statement (.reservedA ign) := fun _ =>
  ⟨_, write_accepted _ _ (by decide)⟩

theorem EncodedWord.reservedB (ign : BitVec 28) : EncodedWord.Statement (.reservedB ign) := fun _ =>
  ⟨_, write_accepted _ _ (by decide)⟩

theorem EncodedWord.reservedC (ign : BitVec 28) : EncodedWord.Statement (.reservedC ign) := fun _ =>
  ⟨_, write_accepted _ _ (by decide)⟩

theorem EncodedWord.reservedD (ign : BitVec 28) : EncodedWord.Statement (.reservedD ign) := fun _ =>
  ⟨_, write_accepted _ _ (by decide)⟩

theorem EncodedWord.reservedE (ign : BitVec 28) : EncodedWord.Statement (.reservedE ign) := fun _ =>
  ⟨_, write_accepted _ _ (by decide)⟩

theorem EncodedWord.softReset (ign : BitVec 28) : EncodedWord.Statement (.softReset ign) := fun _ =>
  ⟨_, write_accepted _ _ (by decide)⟩

theorem EncodedWord.rdId : EncodedWord.Statement .rdId := fun _ =>
  ⟨_, read_accepted _ (by decide)⟩

theorem EncodedWord.rdVersion : EncodedWord.Statement .rdVersion := fun _ =>
  ⟨_, read_accepted _ (by decide)⟩

theorem EncodedWord.rdHwcfg0 : EncodedWord.Statement .rdHwcfg0 := fun _ =>
  ⟨_, read_accepted _ (by decide)⟩

theorem EncodedWord.rdHwcfg1 : EncodedWord.Statement .rdHwcfg1 := fun _ =>
  ⟨_, read_accepted _ (by decide)⟩

theorem EncodedWord.rdStatus : EncodedWord.Statement .rdStatus := fun _ =>
  ⟨_, read_accepted _ (by decide)⟩

theorem EncodedWord.rdErrInfo : EncodedWord.Statement .rdErrInfo := fun _ =>
  ⟨_, read_accepted _ (by decide)⟩

theorem EncodedWord.rdIrqStatus : EncodedWord.Statement .rdIrqStatus := fun _ =>
  ⟨_, read_accepted _ (by decide)⟩

theorem EncodedWord.rdIrqEnable : EncodedWord.Statement .rdIrqEnable := fun _ =>
  ⟨_, read_accepted _ (by decide)⟩

theorem EncodedWord.rdFrameCfg : EncodedWord.Statement .rdFrameCfg := fun _ =>
  ⟨_, read_accepted _ (by decide)⟩

theorem EncodedWord.rdFixedLen : EncodedWord.Statement .rdFixedLen := fun _ =>
  ⟨_, read_accepted _ (by decide)⟩

theorem EncodedWord.rdLenField : EncodedWord.Statement .rdLenField := fun _ =>
  ⟨_, read_accepted _ (by decide)⟩

theorem EncodedWord.rdMaxLen : EncodedWord.Statement .rdMaxLen := fun _ =>
  ⟨_, read_accepted _ (by decide)⟩

theorem EncodedWord.rdSyncWindow : EncodedWord.Statement .rdSyncWindow := fun _ =>
  ⟨_, read_accepted _ (by decide)⟩

theorem EncodedWord.rdHdrBytes0 : EncodedWord.Statement .rdHdrBytes0 := fun _ =>
  ⟨_, read_accepted _ (by decide)⟩

theorem EncodedWord.rdHdrBytes1 : EncodedWord.Statement .rdHdrBytes1 := fun _ =>
  ⟨_, read_accepted _ (by decide)⟩

theorem EncodedWord.rdCkCfg : EncodedWord.Statement .rdCkCfg := fun _ =>
  ⟨_, read_accepted _ (by decide)⟩

theorem EncodedWord.rdCkRange : EncodedWord.Statement .rdCkRange := fun _ =>
  ⟨_, read_accepted _ (by decide)⟩

theorem EncodedWord.rdCkStoreAt : EncodedWord.Statement .rdCkStoreAt := fun _ =>
  ⟨_, read_accepted _ (by decide)⟩

theorem EncodedWord.rdCrcPoly : EncodedWord.Statement .rdCrcPoly := fun _ =>
  ⟨_, read_accepted _ (by decide)⟩

theorem EncodedWord.rdCrcInit : EncodedWord.Statement .rdCrcInit := fun _ =>
  ⟨_, read_accepted _ (by decide)⟩

theorem EncodedWord.rdCrcXorout : EncodedWord.Statement .rdCrcXorout := fun _ =>
  ⟨_, read_accepted _ (by decide)⟩

theorem EncodedWord.rdXsBounds0 : EncodedWord.Statement .rdXsBounds0 := fun _ =>
  ⟨_, read_accepted _ (by decide)⟩

theorem EncodedWord.rdXsStep0 : EncodedWord.Statement .rdXsStep0 := fun _ =>
  ⟨_, read_accepted _ (by decide)⟩

theorem EncodedWord.rdXsRela0 : EncodedWord.Statement .rdXsRela0 := fun _ =>
  ⟨_, read_accepted _ (by decide)⟩

theorem EncodedWord.rdXsRelb0 : EncodedWord.Statement .rdXsRelb0 := fun _ =>
  ⟨_, read_accepted _ (by decide)⟩

theorem EncodedWord.rdXsBounds1 : EncodedWord.Statement .rdXsBounds1 := fun _ =>
  ⟨_, read_accepted _ (by decide)⟩

theorem EncodedWord.rdXsStep1 : EncodedWord.Statement .rdXsStep1 := fun _ =>
  ⟨_, read_accepted _ (by decide)⟩

theorem EncodedWord.rdXsRela1 : EncodedWord.Statement .rdXsRela1 := fun _ =>
  ⟨_, read_accepted _ (by decide)⟩

theorem EncodedWord.rdXsRelb1 : EncodedWord.Statement .rdXsRelb1 := fun _ =>
  ⟨_, read_accepted _ (by decide)⟩

theorem EncodedWord.rdXsBounds2 : EncodedWord.Statement .rdXsBounds2 := fun _ =>
  ⟨_, read_accepted _ (by decide)⟩

theorem EncodedWord.rdXsStep2 : EncodedWord.Statement .rdXsStep2 := fun _ =>
  ⟨_, read_accepted _ (by decide)⟩

theorem EncodedWord.rdXsRela2 : EncodedWord.Statement .rdXsRela2 := fun _ =>
  ⟨_, read_accepted _ (by decide)⟩

theorem EncodedWord.rdXsRelb2 : EncodedWord.Statement .rdXsRelb2 := fun _ =>
  ⟨_, read_accepted _ (by decide)⟩

theorem EncodedWord.rdXsBounds3 : EncodedWord.Statement .rdXsBounds3 := fun _ =>
  ⟨_, read_accepted _ (by decide)⟩

theorem EncodedWord.rdXsStep3 : EncodedWord.Statement .rdXsStep3 := fun _ =>
  ⟨_, read_accepted _ (by decide)⟩

theorem EncodedWord.rdXsRela3 : EncodedWord.Statement .rdXsRela3 := fun _ =>
  ⟨_, read_accepted _ (by decide)⟩

theorem EncodedWord.rdXsRelb3 : EncodedWord.Statement .rdXsRelb3 := fun _ =>
  ⟨_, read_accepted _ (by decide)⟩

theorem EncodedWord.rdOutLevel : EncodedWord.Statement .rdOutLevel := fun _ =>
  ⟨_, read_accepted _ (by decide)⟩

theorem EncodedWord.rdPendLevel : EncodedWord.Statement .rdPendLevel := fun _ =>
  ⟨_, read_accepted _ (by decide)⟩

theorem EncodedWord.rdCntFrames : EncodedWord.Statement .rdCntFrames := fun _ =>
  ⟨_, read_accepted _ (by decide)⟩

theorem EncodedWord.rdCntResync : EncodedWord.Statement .rdCntResync := fun _ =>
  ⟨_, read_accepted _ (by decide)⟩

theorem EncodedWord.rdCntDiscard : EncodedWord.Statement .rdCntDiscard := fun _ =>
  ⟨_, read_accepted _ (by decide)⟩

theorem EncodedWord.rdCntDropped : EncodedWord.Statement .rdCntDropped := fun _ =>
  ⟨_, read_accepted _ (by decide)⟩

theorem EncodedWord.rdCkLevel : EncodedWord.Statement .rdCkLevel := fun _ =>
  ⟨_, read_accepted _ (by decide)⟩

theorem EncodedWord.rdCkResult : EncodedWord.Statement .rdCkResult := fun _ =>
  ⟨_, read_accepted _ (by decide)⟩

theorem EncodedWord.rdCkStored : EncodedWord.Statement .rdCkStored := fun _ =>
  ⟨_, read_accepted _ (by decide)⟩

theorem EncodedWord.wrIrqEnable (data : Word) : EncodedWord.Statement (.wrIrqEnable data) := fun _ =>
  ⟨_, write_accepted _ _ (by decide)⟩

theorem EncodedWord.wrFrameCfg (data : Word) : EncodedWord.Statement (.wrFrameCfg data) := fun _ =>
  ⟨_, write_accepted _ _ (by decide)⟩

theorem EncodedWord.wrFixedLen (data : Word) : EncodedWord.Statement (.wrFixedLen data) := fun _ =>
  ⟨_, write_accepted _ _ (by decide)⟩

theorem EncodedWord.wrLenField (data : Word) : EncodedWord.Statement (.wrLenField data) := fun _ =>
  ⟨_, write_accepted _ _ (by decide)⟩

theorem EncodedWord.wrMaxLen (data : Word) : EncodedWord.Statement (.wrMaxLen data) := fun _ =>
  ⟨_, write_accepted _ _ (by decide)⟩

theorem EncodedWord.wrSyncWindow (data : Word) : EncodedWord.Statement (.wrSyncWindow data) := fun _ =>
  ⟨_, write_accepted _ _ (by decide)⟩

theorem EncodedWord.wrHdrBytes0 (data : Word) : EncodedWord.Statement (.wrHdrBytes0 data) := fun _ =>
  ⟨_, write_accepted _ _ (by decide)⟩

theorem EncodedWord.wrHdrBytes1 (data : Word) : EncodedWord.Statement (.wrHdrBytes1 data) := fun _ =>
  ⟨_, write_accepted _ _ (by decide)⟩

theorem EncodedWord.wrCkCfg (data : Word) : EncodedWord.Statement (.wrCkCfg data) := fun _ =>
  ⟨_, write_accepted _ _ (by decide)⟩

theorem EncodedWord.wrCkRange (data : Word) : EncodedWord.Statement (.wrCkRange data) := fun _ =>
  ⟨_, write_accepted _ _ (by decide)⟩

theorem EncodedWord.wrCkStoreAt (data : Word) : EncodedWord.Statement (.wrCkStoreAt data) := fun _ =>
  ⟨_, write_accepted _ _ (by decide)⟩

theorem EncodedWord.wrCrcPoly (data : Word) : EncodedWord.Statement (.wrCrcPoly data) := fun _ =>
  ⟨_, write_accepted _ _ (by decide)⟩

theorem EncodedWord.wrCrcInit (data : Word) : EncodedWord.Statement (.wrCrcInit data) := fun _ =>
  ⟨_, write_accepted _ _ (by decide)⟩

theorem EncodedWord.wrCrcXorout (data : Word) : EncodedWord.Statement (.wrCrcXorout data) := fun _ =>
  ⟨_, write_accepted _ _ (by decide)⟩

theorem EncodedWord.wrXsBounds0 (data : Word) : EncodedWord.Statement (.wrXsBounds0 data) := fun _ =>
  ⟨_, write_accepted _ _ (by decide)⟩

theorem EncodedWord.wrXsStep0 (data : Word) : EncodedWord.Statement (.wrXsStep0 data) := fun _ =>
  ⟨_, write_accepted _ _ (by decide)⟩

theorem EncodedWord.wrXsRela0 (data : Word) : EncodedWord.Statement (.wrXsRela0 data) := fun _ =>
  ⟨_, write_accepted _ _ (by decide)⟩

theorem EncodedWord.wrXsRelb0 (data : Word) : EncodedWord.Statement (.wrXsRelb0 data) := fun _ =>
  ⟨_, write_accepted _ _ (by decide)⟩

theorem EncodedWord.wrXsBounds1 (data : Word) : EncodedWord.Statement (.wrXsBounds1 data) := fun _ =>
  ⟨_, write_accepted _ _ (by decide)⟩

theorem EncodedWord.wrXsStep1 (data : Word) : EncodedWord.Statement (.wrXsStep1 data) := fun _ =>
  ⟨_, write_accepted _ _ (by decide)⟩

theorem EncodedWord.wrXsRela1 (data : Word) : EncodedWord.Statement (.wrXsRela1 data) := fun _ =>
  ⟨_, write_accepted _ _ (by decide)⟩

theorem EncodedWord.wrXsRelb1 (data : Word) : EncodedWord.Statement (.wrXsRelb1 data) := fun _ =>
  ⟨_, write_accepted _ _ (by decide)⟩

theorem EncodedWord.wrXsBounds2 (data : Word) : EncodedWord.Statement (.wrXsBounds2 data) := fun _ =>
  ⟨_, write_accepted _ _ (by decide)⟩

theorem EncodedWord.wrXsStep2 (data : Word) : EncodedWord.Statement (.wrXsStep2 data) := fun _ =>
  ⟨_, write_accepted _ _ (by decide)⟩

theorem EncodedWord.wrXsRela2 (data : Word) : EncodedWord.Statement (.wrXsRela2 data) := fun _ =>
  ⟨_, write_accepted _ _ (by decide)⟩

theorem EncodedWord.wrXsRelb2 (data : Word) : EncodedWord.Statement (.wrXsRelb2 data) := fun _ =>
  ⟨_, write_accepted _ _ (by decide)⟩

theorem EncodedWord.wrXsBounds3 (data : Word) : EncodedWord.Statement (.wrXsBounds3 data) := fun _ =>
  ⟨_, write_accepted _ _ (by decide)⟩

theorem EncodedWord.wrXsStep3 (data : Word) : EncodedWord.Statement (.wrXsStep3 data) := fun _ =>
  ⟨_, write_accepted _ _ (by decide)⟩

theorem EncodedWord.wrXsRela3 (data : Word) : EncodedWord.Statement (.wrXsRela3 data) := fun _ =>
  ⟨_, write_accepted _ _ (by decide)⟩

theorem EncodedWord.wrXsRelb3 (data : Word) : EncodedWord.Statement (.wrXsRelb3 data) := fun _ =>
  ⟨_, write_accepted _ _ (by decide)⟩

theorem EncodedWord.cmdWrite (data : Word) : EncodedWord.Statement (.cmdWrite data) := fun _ =>
  ⟨_, write_accepted _ _ (by decide)⟩

theorem EncodedWord.data8 (data : Word) : EncodedWord.Statement (.data8 data) := fun _ =>
  ⟨_, write_accepted _ _ (by decide)⟩

theorem EncodedWord.data32 (data : Word) : EncodedWord.Statement (.data32 data) := fun _ =>
  ⟨_, write_accepted _ _ (by decide)⟩

theorem EncodedWord.outPop : EncodedWord.Statement .outPop := fun _ =>
  ⟨_, read_accepted _ (by decide)⟩

theorem EncodedWord.ckData8 (data : Word) : EncodedWord.Statement (.ckData8 data) := fun _ =>
  ⟨_, write_accepted _ _ (by decide)⟩

theorem EncodedWord.ckData32 (data : Word) : EncodedWord.Statement (.ckData32 data) := fun _ =>
  ⟨_, write_accepted _ _ (by decide)⟩

theorem EncodedWord.irqW1c (data : Word) : EncodedWord.Statement (.irqW1c data) := fun _ =>
  ⟨_, write_accepted _ _ (by decide)⟩

theorem EncodedWord.reservedAccess (op : BusOp) : EncodedWord.Statement (.reservedAccess op) := fun h =>
  ⟨_, toBusOp_toAccess op (by simp only [Instr.wellFormed, Bool.and_eq_true] at h; exact h.1)⟩

end Sys2Proof.Laws
end

