-- ==== Sys2Proof/Laws/Sync.lean ====
section
/-! SUPPORT. The synchronizer: what one pass of `Run()` can do, that `Run()` returns, and where it returns. -/

namespace Sys2Proof.Machine

/-! ## The header matcher (42_frame_synchronizer.md R164) -/

/-- The model's match is the rule's, byte by byte. -/
theorem matchAt_iff (hdr pend : List Byte) (p : Nat) : matchAt hdr pend p = true ↔ Matches hdr pend p := by
  simp only [matchAt, Matches, Bool.and_eq_true, decide_eq_true_eq, beq_iff_eq]
  refine and_congr_right fun hlen => ?_
  constructor
  · intro h k hk
    rw [← h]
    simp [hk]
  · intro h
    apply List.ext_getElem?
    intro k
    by_cases hk : k < hdr.length
    · simpa [List.getElem?_take, hk] using h k hk
    · simp [hk]

/-- The least match, if there is one. -/
theorem firstMatch_eq_some_iff (hdr pend : List Byte) (p : Nat) :
    firstMatch hdr pend = some p ↔ Matches hdr pend p ∧ ∀ q, q < p → ¬Matches hdr pend q := by
  simp only [firstMatch, List.find?_range_eq_some, matchAt_iff, List.mem_range, Bool.not_eq_true']
  constructor
  · rintro ⟨hp, -, hq⟩
    exact ⟨hp, fun q h hm => by simpa [(matchAt_iff _ _ _).2 hm] using hq q h⟩
  · rintro ⟨hp, hq⟩
    refine ⟨hp, by have := hp.1; omega, fun q h => ?_⟩
    by_contra hc
    exact hq q h ((matchAt_iff _ _ _).1 (by simpa using hc))

/-- No match anywhere. -/
theorem firstMatch_eq_none_iff (hdr pend : List Byte) :
    firstMatch hdr pend = none ↔ ∀ p, ¬Matches hdr pend p := by
  simp only [firstMatch, List.find?_eq_none, List.mem_range, matchAt_iff]
  constructor
  · intro h p hp
    exact h p (by have := hp.1; omega) hp
  · exact fun h p _ => h p

/-- A match of a non-empty header needs a non-empty Pend. -/
theorem Matches.pend_pos {hdr pend : List Byte} {p : Nat} (h : Matches hdr pend p) (hh : 1 ≤ hdr.length) :
    1 ≤ pend.length := by have := h.1; omega

/-- Removing the bytes before a match leaves it at the front. -/
theorem Matches.drop {hdr pend : List Byte} {p : Nat} (h : Matches hdr pend p) :
    Matches hdr (pend.drop p) 0 := by
  refine ⟨by have := h.1; simp; omega, fun k hk => ?_⟩
  simpa using h.2 k hk

/-- A match at the front survives appended bytes. -/
theorem Matches.append {hdr pend : List Byte} {p : Nat} (h : Matches hdr pend p) (bs : List Byte) :
    Matches hdr (pend ++ bs) p := by
  refine ⟨by have := h.1; simp; omega, fun k hk => ?_⟩
  rw [List.getElem?_append_left (by have := h.1; omega)]
  exact h.2 k hk

/-- A match in the newest bytes of Pend is a match in Pend. -/
theorem Matches.of_drop {hdr pend : List Byte} {p k : Nat} (h : Matches hdr (pend.drop k) p)
    (hh : 1 ≤ hdr.length) : Matches hdr pend (k + p) := by
  have h1 := h.1
  simp only [List.length_drop] at h1
  refine ⟨by omega, fun j hj => ?_⟩
  have := h.2 j hj
  simpa [Nat.add_assoc] using this

/-- An accepted configuration has a non-empty header. -/
theorem ConfigFacts.hdr_pos {hw : HwParams} {c : ClRegs} (h : ConfigFacts hw c) : 1 ≤ c.hdr.length := by
  have := h.hdrPos
  simp [ClRegs.hdr, ClRegs.hdrAll]
  omega

/-! ## Frames and growth -/

/-- What `Run()` and FLUSH may change: the synchronizer's own parts, Out, IRQ_STATUS and the counters. -/
def SyncFrame (s t : State) : Prop :=
  t = { s with
    fsm := t.fsm, candLen := t.candLen, pend := t.pend, out := t.out, irqStatus := t.irqStatus,
    cntFrames := t.cntFrames, cntResync := t.cntResync, cntDiscard := t.cntDiscard, cntDropped := t.cntDropped }

/-- An operation of the synchronizer changes its own parts only, sets interrupt bits only, keeps Out within its
capacity and adds no byte to Pend. -/
structure SyncStep (s t : State) : Prop where
  frame : SyncFrame s t
  irqGrows : s.irqStatus &&& t.irqStatus = s.irqStatus
  outFits : s.out.length ≤ s.hw.outDepth → t.out.length ≤ t.hw.outDepth
  shrinks : t.pend.length ≤ s.pend.length

theorem irq_grows_or (a b : BitVec 7) : a &&& (a ||| b) = a := by
  ext i hi
  simp only [BitVec.getElem_and, BitVec.getElem_or]
  cases a[i] <;> rfl

theorem irq_grows_trans {a b c : BitVec 7} (h1 : a &&& b = a) (h2 : b &&& c = b) : a &&& c = a := by
  rw [← h1, BitVec.and_assoc, h2]

theorem SyncStep.refl (s : State) : SyncStep s s := ⟨rfl, by simp, id, le_rfl⟩

theorem SyncStep.hw {s t : State} (h : SyncStep s t) : t.hw = s.hw := by rw [h.frame]
theorem SyncStep.cfg {s t : State} (h : SyncStep s t) : t.cfg = s.cfg := by rw [h.frame]
theorem SyncStep.mode {s t : State} (h : SyncStep s t) : t.mode = s.mode := by rw [h.frame]

theorem SyncStep.trans {s t u : State} (h1 : SyncStep s t) (h2 : SyncStep t u) : SyncStep s u := by
  refine ⟨?_, irq_grows_trans h1.irqGrows h2.irqGrows, fun h => h2.outFits (by simpa [h1.hw] using h1.outFits h),
    h2.shrinks.trans h1.shrinks⟩
  have e1 := h1.frame
  have e2 := h2.frame
  unfold SyncFrame at *
  rw [e2, e1]

theorem SyncStep.emit (ws : List Word) (s : State) : SyncStep s (emit ws s) := by
  refine ⟨?_, emit_irqStatus_grows ws s, fun h => by simpa using emit_outFits ws s h, by simp⟩
  rcases emit_cases ws s with ⟨_, h⟩ | ⟨_, h⟩ <;> rw [h] <;> rfl

theorem SyncStep.resync (s : State) : SyncStep s (resync s) :=
  ⟨rfl, irq_grows_or _ _, id, by simp⟩

theorem SyncStep.discardTo {p : List Byte} {s : State} (hp : p.length ≤ s.pend.length) (k : Nat) :
    SyncStep s (discardTo p k s) :=
  ⟨rfl, irq_grows_or _ _, id, by simpa using hp⟩

theorem SyncStep.windowGuard (s : State) : SyncStep s (windowGuard s) := by
  unfold Machine.windowGuard
  split
  · exact .discardTo (by simp) _
  · exact .refl s

theorem SyncStep.emitFrame (len : Nat) (s : State) : SyncStep s (emitFrame len s) := by
  have h := SyncStep.emit (frameRecord (s.pend.take len)) s
  refine ⟨?_, irq_grows_trans h.irqGrows (irq_grows_or _ _), h.outFits, by simp⟩
  have e := h.frame
  unfold SyncFrame at *
  unfold Machine.emitFrame
  simp only [setIrq]
  rw [e]

/-! ## One pass -/

/-- What holds inside `Run()`: the configuration passed ARM, a held candidate has its header at the front of Pend, and
a resolved one a checked length. -/
structure Running (s : State) : Prop where
  config : ConfigFacts s.hw s.cfg
  front : s.fsm ≠ .seekingHeader → Matches s.cfg.hdr s.pend 0
  cand : s.fsm = .bodyPending → CandidateOk s

/-- The place of a state in the order SEEKING_HEADER > LENGTH_PENDING > BODY_PENDING (42_frame_synchronizer.md R166). -/
def Fsm.rank : Fsm → Nat
  | .seekingHeader => 2
  | .lengthPending => 1
  | .bodyPending => 0

/-- What every pass that does not return decreases (42_frame_synchronizer.md R166). -/
def runMeasure (s : State) : Nat := 3 * s.pend.length + s.fsm.rank

/-- A resolved length fits the configuration (41_length_resolver.md R140, R141, R145). -/
theorem resolve_ok {hw : HwParams} {c : ClRegs} (h : ConfigFacts hw c) {pend : List Byte} {len : Nat}
    (hr : c.resolve pend = .ok len) :
    c.hdrLen ≤ len ∧ len ≤ c.maxLength ∧ c.ckGeom len = true := by
  unfold ClRegs.resolve at hr
  split at hr
  · split at hr
    · cases hr
    · unfold ClRegs.checkLength at hr
      split_ifs at hr with h1 h2 h3
      cases hr
      push Not at h3
      refine ⟨by omega, by omega, by simpa using h3.2.2⟩
  · cases hr
    exact h.fixed (by simp_all)

/-- Fixed mode resolves at once (41_length_resolver.md R141). -/
theorem resolve_need {c : ClRegs} {pend : List Byte} (hr : c.resolve pend = .need) :
    c.dynamic = true ∧ pend.length < c.lenOff + c.lw := by
  unfold ClRegs.resolve at hr
  split at hr
  · split at hr
    · exact ⟨‹_›, ‹_›⟩
    · unfold ClRegs.checkLength at hr
      split_ifs at hr
  · cases hr

/-- A pass that goes round again keeps what holds inside `Run()`, decreases the measure, and is a step of the
relation. -/
theorem pass_again {s t : State} (h : Running s) (hp : pass s = .again t) :
    Running t ∧ SyncStep s t ∧ runMeasure t < runMeasure s ∧ ∀ u, RunsTo t u → RunsTo s u := by
  have hh := h.config.hdr_pos
  unfold pass at hp
  split at hp
  · rename_i hf
    unfold passSeeking at hp
    split at hp
    · rename_i p hm
      cases hp
      obtain ⟨hm, hleast⟩ := (firstMatch_eq_some_iff _ _ _).1 hm
      refine ⟨⟨h.config, fun _ => hm.drop, by simp⟩, ⟨rfl, by simp, id, by simp⟩, ?_,
        fun u hu => .seekFound s u p hf hm hleast hu⟩
      simp [runMeasure, Fsm.rank, hf]
    · cases hp
  · rename_i hf
    have hm := h.front (by simp [hf])
    have hpos := hm.pend_pos hh
    unfold passLength at hp
    split at hp
    · cases hp
    · rename_i len hr
      cases hp
      refine ⟨⟨h.config, fun _ => hm, fun _ => resolve_ok h.config hr⟩, ⟨rfl, by simp, id, by simp⟩, ?_,
        fun u hu => .lengthOk s u len hf hr hu⟩
      simp [runMeasure, Fsm.rank, hf]
    · rename_i r raw hr
      cases hp
      refine ⟨⟨by simpa using h.config, by simp, by simp⟩, (SyncStep.emit _ _).trans (.resync _), ?_,
        fun u hu => .lengthInvalid s u r raw hf hr hu⟩
      simp [runMeasure, Fsm.rank, hf]
      omega
  · rename_i hf
    have hm := h.front (by simp [hf])
    have hpos := hm.pend_pos hh
    have hc := h.cand hf
    have h1 := h.config.hdrPos
    unfold passBody at hp
    split at hp
    · cases hp
    · rename_i hl
      split at hp
      · cases hp
      · rename_i v hv
        split at hp
        · rename_i hok
          cases hp
          refine ⟨⟨by simpa using h.config, by simp, by simp⟩, .emitFrame _ _, ?_,
            fun u hu => .bodyEmit s u v hf (by omega) hv hok hu⟩
          have := hc.1
          simp [runMeasure, Fsm.rank, hf]
          omega
        · rename_i hok
          cases hp
          refine ⟨⟨by simpa using h.config, by simp, by simp⟩, (SyncStep.emit _ _).trans (.resync _), ?_,
            fun u hu => .bodyMismatch s u v hf (by omega) hv (by simpa using hok) hu⟩
          simp [runMeasure, Fsm.rank, hf]
          omega

/-- A pass that returns leaves the block at rest. -/
theorem pass_rest {s t : State} (h : Running s) (hp : pass s = .rest t) :
    Running t ∧ SyncStep s t ∧ Resting t ∧ RunsTo s t := by
  have hh := h.config.hdr_pos
  unfold pass at hp
  split at hp
  · rename_i hf
    unfold passSeeking at hp
    split at hp
    · cases hp
    · rename_i hm
      cases hp
      have hno := (firstMatch_eq_none_iff _ _).1 hm
      unfold windowGuard
      split
      · rename_i hw
        refine ⟨⟨h.config, by simp [hf], by simp [hf]⟩, .discardTo (by simp) _,
          ⟨fun _ => ⟨by simp; omega, ?_⟩, by simp [hf], by simp [hf]⟩,
          .seekGuard s hf hno _ (by omega) (by omega)⟩
        exact (firstMatch_eq_none_iff _ _).2 fun p hp => hno _ (Matches.of_drop hp hh)
      · rename_i hw
        exact ⟨h, .refl s, ⟨fun _ => ⟨by omega, hm⟩, by simp [hf], by simp [hf]⟩,
          .seekKeep s hf hno (by omega)⟩
  · rename_i hf
    have hm := (matchAt_iff _ _ _).2 (h.front (by simp [hf]))
    unfold passLength at hp
    split at hp
    · rename_i hr
      cases hp
      obtain ⟨hd, hl⟩ := resolve_need hr
      exact ⟨h, .refl _, ⟨by simp [hf], fun _ => ⟨hd, hm, hl⟩, by simp [hf]⟩, .lengthNeed _ hf hr⟩
    · cases hp
    · cases hp
  · rename_i hf
    have hm := (matchAt_iff _ _ _).2 (h.front (by simp [hf]))
    unfold passBody at hp
    split at hp
    · rename_i hl
      cases hp
      exact ⟨h, .refl _, ⟨by simp [hf], by simp [hf], fun _ => ⟨hm, hl, h.cand hf⟩⟩, .bodyNeed _ hf hl⟩
    · split at hp
      · cases hp
      · split at hp <;> cases hp

/-- Inside `Run()` the engine is never called outside its requirement (42_frame_synchronizer.md R172). -/
theorem pass_not_stuck {s : State} (h : Running s) (f : Fault) : pass s ≠ .stuck f := by
  intro hp
  unfold pass at hp
  split at hp
  · unfold passSeeking at hp; split at hp <;> cases hp
  · unfold passLength at hp; split at hp <;> cases hp
  · rename_i hf
    unfold passBody at hp
    split at hp
    · cases hp
    · rename_i hl
      obtain ⟨f, hfam, -⟩ := h.config.family
      obtain ⟨v, hv⟩ := verify_isSome hfam (s.pend.take s.candLen)
        (by simpa [List.length_take, Nat.min_eq_left (Nat.le_of_not_lt hl)] using (h.cand hf).2.2)
      rw [hv] at hp
      split at hp
      · cases ‹some v = none›
      · split at hp <;> cases hp

/-- `Run()` returns, at rest, where the relation says (42_frame_synchronizer.md R163, R166). -/
theorem runFuel_returns : ∀ (n : Nat) (s : State), Running s → runMeasure s < n →
    ∃ t, runFuel n s = .ok t ∧ Running t ∧ SyncStep s t ∧ Resting t ∧ RunsTo s t
  | 0, _, _, h => absurd h (by omega)
  | n + 1, s, hs, hn => by
    unfold runFuel
    cases hp : pass s with
    | rest t => exact ⟨t, rfl, pass_rest hs hp⟩
    | stuck f => exact absurd hp (pass_not_stuck hs f)
    | again t =>
      obtain ⟨ht, hst, hm, hrel⟩ := pass_again hs hp
      obtain ⟨u, hu, hru, htu, hrest, hto⟩ := runFuel_returns n t ht (by omega)
      exact ⟨u, hu, hru, hst.trans htu, hrest, hrel u hto⟩

theorem run_returns {s : State} (h : Running s) :
    ∃ t, run s = .ok t ∧ Running t ∧ SyncStep s t ∧ Resting t ∧ RunsTo s t := by
  refine runFuel_returns _ s h ?_
  unfold runMeasure runBound Fsm.rank
  split <;> omega

/-! ## Pushes -/

/-- A block at rest is as `Run()` needs it once a byte is appended. -/
theorem Resting.running_push {s : State} (hc : ConfigFacts s.hw s.cfg) (h : Resting s) (bs : List Byte) :
    Running { s with pend := s.pend ++ bs } := by
  refine ⟨hc, fun hf => ?_, fun hf => (h.bodyPending hf).2.2⟩
  cases hfsm : s.fsm with
  | seekingHeader => exact absurd hfsm hf
  | lengthPending => exact ((matchAt_iff _ _ _).1 (h.lengthPending hfsm).2.1).append bs
  | bodyPending => exact ((matchAt_iff _ _ _).1 (h.bodyPending hfsm).1).append bs

/-- A byte pushed into an armed block at rest (44_bus_operations.md R234). -/
theorem pushByte_returns {s : State} (hm : s.mode = .armed) (hc : ConfigFacts s.hw s.cfg) (h : Resting s) (b : Byte) :
    ∃ t, pushByte b s = .ok t ∧ Running t ∧ SyncStep { s with pend := s.pend ++ [b] } t ∧ Resting t ∧
      RunsTo { s with pend := s.pend ++ [b] } t := by
  rw [pushByte, if_pos hm]
  exact run_returns (h.running_push hc [b])

/-! ## FLUSH -/

/-- A block at rest is as `Run()` needs it. -/
theorem Resting.running {s : State} (hc : ConfigFacts s.hw s.cfg) (h : Resting s) : Running s := by
  simpa using h.running_push hc []

/-- A held candidate has a byte in Pend. -/
theorem Running.pend_pos {s : State} (h : Running s) (hf : s.fsm ≠ .seekingHeader) : 1 ≤ s.pend.length :=
  (h.front hf).pend_pos h.config.hdr_pos

/-- A candidate given up leaves the block as `Run()` needs it. -/
theorem Running.resync_emit {s : State} (h : Running s) (ws : List Word) : Running (resync (emit ws s)) :=
  ⟨by simpa using h.config, by simp, by simp⟩

/-- The loop of FLUSH ends with no candidate held, where the relation says (43_commands.md R204). -/
theorem flushLoop_returns : ∀ (n : Nat) (s : State), Running s → s.pend.length ≤ n →
    ∃ t, flushLoop n s = .ok t ∧ t.fsm = .seekingHeader ∧ SyncStep s t ∧ FlushesTo s t
  | 0, s, hs, hn => by
    have hf : s.fsm = .seekingHeader := by
      by_contra hf
      have := hs.pend_pos hf
      omega
    exact ⟨s, by simp [flushLoop, hf], hf, .refl s, .done s hf⟩
  | n + 1, s, hs, hn => by
    unfold flushLoop
    split
    · rename_i hf
      exact ⟨s, rfl, hf, .refl s, .done s hf⟩
    · rename_i hf
      obtain ⟨t, ht, hrt, hst, -, hto⟩ := run_returns (hs.resync_emit (truncatedRecord s.pend.length))
      have hpos := hs.pend_pos hf
      have hsh := hst.shrinks
      simp only [resync_pend, emit_pend, List.length_drop] at hsh
      obtain ⟨u, hu, hfu, hsu, hfl⟩ := flushLoop_returns n t hrt (by omega)
      rw [ht]
      exact ⟨u, hu, hfu, ((SyncStep.emit _ _).trans (.resync _)).trans (hst.trans hsu), .truncate s t u hf hto hfl⟩

/-- The end of FLUSH (43_commands.md R204). -/
theorem flushRemainder_cases (s : State) :
    (s.pend = [] ∧ flushRemainder s = s) ∨
    (s.pend ≠ [] ∧ flushRemainder s = { s with
      pend := [], cntDiscard := s.cntDiscard + BitVec.ofNat 32 s.pend.length, irqStatus := s.irqStatus ||| 0x04 }) := by
  unfold flushRemainder
  split
  · exact .inr ⟨List.ne_nil_of_length_pos ‹_›, rfl⟩
  · have h : s.pend = [] := List.eq_nil_of_length_eq_zero (by omega)
    exact .inl ⟨h, by rw [← h]⟩

/-- FLUSH of an armed block at rest ends with Pend empty and no candidate (43_commands.md R204). -/
theorem flush_returns {s : State} (hc : ConfigFacts s.hw s.cfg) (h : Resting s) :
    ∃ t, flush s = .ok (flushRemainder t) ∧ t.fsm = .seekingHeader ∧ SyncStep s (flushRemainder t) ∧
      FlushesTo s t := by
  obtain ⟨t, ht, hf, hst, hto⟩ := flushLoop_returns _ s (h.running hc) le_rfl
  refine ⟨t, by simp [flush, ht], hf, ?_, hto⟩
  unfold flushRemainder
  split
  · exact hst.trans (.discardTo (by simp) _)
  · have h : t.pend = [] := List.eq_nil_of_length_eq_zero (by omega)
    rw [← h]
    exact hst

end Sys2Proof.Machine
end

