-- ==== Sys2Proof/Tests/Slice0.lean ====
section
/-! SUPPORT. Tests: the ill-formed terms, words written out from the spec's tables, small steps with results taken from
the spec, and for each statement with hypotheses a state and operands that meet them. -/

namespace Sys2Proof.Tests

open Sys2Proof Sys2Proof.Machine

/-! ## WellFormed: one ill-formed term for each check -/

/-- An offset whose bits [1:0] are not 00 (30_encoding.md R81). -/
theorem test_illFormed_misaligned_read : Instr.wellFormed (.reservedAccess (.read 0x026)) = false := by decide
theorem test_illFormed_misaligned_write : Instr.wellFormed (.reservedAccess (.write 0x161 0)) = false := by decide
/-- An operation with a row of its own is no RESERVED_ACCESS (30_encoding.md R81). -/
theorem test_illFormed_read_with_row : Instr.wellFormed (.reservedAccess (.read 0x014)) = false := by decide
theorem test_illFormed_write_with_row : Instr.wellFormed (.reservedAccess (.write 0x100 0)) = false := by decide
/-- A write to a read-only register, and a read of a write-only one, are (44_bus_operations.md R232). -/
theorem test_wellFormed_reserved : Instr.wellFormed (.reservedAccess (.write 0x014 0)) = true ∧
    Instr.wellFormed (.reservedAccess (.read 0x100)) = true ∧ Instr.wellFormed (.reservedAccess (.read 0xFFC)) = true := by
  decide

/-! ## Decoding: words written out from 30_encoding.md R81, R82 and 10_state.md R20 -/

theorem test_decode_commands :
    (List.range 16).map (fun k => decodeTableWord 8 k) =
    [some (.nop 0), some (.arm 0), some (.disarm 0), some (.flush 0), some (.ckInit 0), some (.ckCompute 0),
     some (.ckVerify 0), some (.reserved7 0), some (.reserved8 0), some (.reserved9 0), some (.reservedA 0),
     some (.reservedB 0), some (.reservedC 0), some (.reservedD 0), some (.reservedE 0), some (.softReset 0)] := by
  decide

theorem test_decode_command_ignored_bits :
    decode (.cmd 0xFFFFFFF1) = .ok (.arm 0xFFFFFFF) ∧ decode (.cmd 0x1234567F) = .ok (.softReset 0x1234567) := by
  decide

theorem test_decode_reads :
    [0x000, 0x004, 0x008, 0x00C, 0x014, 0x018, 0x01C, 0x020, 0x030, 0x034, 0x038, 0x03C, 0x040, 0x044, 0x048, 0x050,
     0x054, 0x058, 0x05C, 0x060, 0x064].map (fun o => decodeBus (.read o)) =
    [.ok .rdId, .ok .rdVersion, .ok .rdHwcfg0, .ok .rdHwcfg1, .ok .rdStatus, .ok .rdErrInfo, .ok .rdIrqStatus,
     .ok .rdIrqEnable, .ok .rdFrameCfg, .ok .rdFixedLen, .ok .rdLenField, .ok .rdMaxLen, .ok .rdSyncWindow,
     .ok .rdHdrBytes0, .ok .rdHdrBytes1, .ok .rdCkCfg, .ok .rdCkRange, .ok .rdCkStoreAt, .ok .rdCrcPoly,
     .ok .rdCrcInit, .ok .rdCrcXorout] := by decide

theorem test_decode_slice_reads :
    [0x080, 0x084, 0x088, 0x08C, 0x090, 0x094, 0x098, 0x09C, 0x0A0, 0x0A4, 0x0A8, 0x0AC, 0x0B0, 0x0B4, 0x0B8,
     0x0BC].map (fun o => decodeBus (.read o)) =
    [.ok .rdXsBounds0, .ok .rdXsStep0, .ok .rdXsRela0, .ok .rdXsRelb0, .ok .rdXsBounds1, .ok .rdXsStep1,
     .ok .rdXsRela1, .ok .rdXsRelb1, .ok .rdXsBounds2, .ok .rdXsStep2, .ok .rdXsRela2, .ok .rdXsRelb2,
     .ok .rdXsBounds3, .ok .rdXsStep3, .ok .rdXsRela3, .ok .rdXsRelb3] := by decide

theorem test_decode_data_reads :
    [0x110, 0x114, 0x118, 0x120, 0x124, 0x128, 0x12C, 0x148, 0x14C, 0x150].map (fun o => decodeBus (.read o)) =
    [.ok .outPop, .ok .rdOutLevel, .ok .rdPendLevel, .ok .rdCntFrames, .ok .rdCntResync, .ok .rdCntDiscard,
     .ok .rdCntDropped, .ok .rdCkLevel, .ok .rdCkResult, .ok .rdCkStored] := by decide

theorem test_decode_writes :
    [0x020, 0x030, 0x034, 0x038, 0x03C, 0x040, 0x044, 0x048, 0x050, 0x054, 0x058, 0x05C, 0x060, 0x064].map
      (fun o => decodeBus (.write o 0xA5)) =
    [.ok (.wrIrqEnable 0xA5), .ok (.wrFrameCfg 0xA5), .ok (.wrFixedLen 0xA5), .ok (.wrLenField 0xA5),
     .ok (.wrMaxLen 0xA5), .ok (.wrSyncWindow 0xA5), .ok (.wrHdrBytes0 0xA5), .ok (.wrHdrBytes1 0xA5),
     .ok (.wrCkCfg 0xA5), .ok (.wrCkRange 0xA5), .ok (.wrCkStoreAt 0xA5), .ok (.wrCrcPoly 0xA5),
     .ok (.wrCrcInit 0xA5), .ok (.wrCrcXorout 0xA5)] := by decide

theorem test_decode_slice_writes :
    [0x080, 0x084, 0x088, 0x08C, 0x090, 0x094, 0x098, 0x09C, 0x0A0, 0x0A4, 0x0A8, 0x0AC, 0x0B0, 0x0B4, 0x0B8,
     0x0BC].map (fun o => decodeBus (.write o 7)) =
    [.ok (.wrXsBounds0 7), .ok (.wrXsStep0 7), .ok (.wrXsRela0 7), .ok (.wrXsRelb0 7), .ok (.wrXsBounds1 7),
     .ok (.wrXsStep1 7), .ok (.wrXsRela1 7), .ok (.wrXsRelb1 7), .ok (.wrXsBounds2 7), .ok (.wrXsStep2 7),
     .ok (.wrXsRela2 7), .ok (.wrXsRelb2 7), .ok (.wrXsBounds3 7), .ok (.wrXsStep3 7), .ok (.wrXsRela3 7),
     .ok (.wrXsRelb3 7)] := by decide

theorem test_decode_port_writes :
    [0x010, 0x100, 0x104, 0x140, 0x144, 0x01C].map (fun o => decodeBus (.write o 9)) =
    [.ok (.cmdWrite 9), .ok (.data8 9), .ok (.data32 9), .ok (.ckData8 9), .ok (.ckData32 9), .ok (.irqW1c 9)] := by
  decide

theorem test_decode_reserved :
    decodeBus (.read 0x010) = .ok (.reservedAccess (.read 0x010)) ∧
    decodeBus (.write 0x110 1) = .ok (.reservedAccess (.write 0x110 1)) ∧
    decodeBus (.read 0x0C0) = .ok (.reservedAccess (.read 0x0C0)) ∧
    decodeBus (.read 0x0C1) = .error .misaligned := by decide

/-- A table word holds no direction: the read where there is one, else the write (log entry 12). -/
theorem test_decode_table_words :
    decodeTableWord 16 0x020 = some .rdIrqEnable ∧ decodeTableWord 16 0x100 = some (.data8 0) ∧
    decodeTableWord 16 0x024 = some (.reservedAccess (.read 0x024)) ∧ decodeTableWord 16 0x1000 = none := by decide

/-- 20_memory.md R64: the refused accesses. -/
theorem test_decode_violations :
    decodeAccess ⟨.read, 1, 0x014, 0⟩ = .error .notWordAccess ∧
    decodeAccess ⟨.write, 4, 0x1000, 0⟩ = .error .outsideWindow ∧ decodeAccess ⟨.read, 4, -4, 0⟩ = .error .outsideWindow ∧
    decodeAccess ⟨.read, 4, 0x016, 0⟩ = .error .misaligned ∧ decodeAccess ⟨.read, 4, 0xFFC, 0⟩ =
      .ok (.reservedAccess (.read 0xFFC)) := by decide

/-! ## States for the steps -/

/-- The configuration of 42_frame_synchronizer.md R187. -/
def fixedCfg : ClRegs :=
  { State.zeroCfg with
    frameCfg := 0x1, fixedLen := 4, maxLen := 4, syncWindow := 8, hdrBytes0 := 0x7E, ckRange := 0xFFFF0000,
    ckStoreAt := 0xFFFF }

/-- A dynamic-length configuration: header AA 55, length byte at 2, OVERHEAD = 5, MAX_LEN = 64 (41_length_resolver.md
R147), CRC-16/CCITT-FALSE over [0, -2) stored at -2 in two bytes. -/
def dynamicCfg : ClRegs :=
  { State.zeroCfg with
    frameCfg := 0x102, lenField := 0x00050002, maxLen := 64, syncWindow := 16, hdrBytes0 := 0x55AA, ckCfg := 0x103,
    ckRange := 0xFFFE0000, ckStoreAt := 0xFFFE, crcPoly := 0x1021, crcInit := 0xFFFF }

/-- An xor16 configuration with one slice, the example of 40_checksum_engine.md R107. -/
def xorCfg : ClRegs :=
  { fixedCfg with
    ckCfg := 0x10102, ckStoreAt := 0xFFFE, xs := fixedCfg.xs.set 0 ⟨0x00040000, 0x0202, 0x0100, 0⟩ }

/-- A build with the reference parameters in IDLE with a configuration. -/
def idleWith (c : ClRegs) : State := { State.resetFor Config.reference with cfg := c }

/-- The same right after its ARM. -/
def armedWith (c : ClRegs) : State := armSession (idleWith c)

/-- Armed with the fixed configuration, at a place of a stream. -/
def fixedAt (fsm : Fsm) (candLen : Nat) (pend : List Byte) (out : List Word) : State :=
  { armedWith fixedCfg with fsm := fsm, candLen := candLen, pend := pend, out := out }

theorem fixedCfg_masked (r : ClReg) : fixedCfg.get r &&& r.mask = fixedCfg.get r := by
  cases r with
  | xsBounds i => revert i; decide
  | xsStep i => revert i; decide
  | xsRelA i => revert i; decide
  | xsRelB i => revert i; decide
  | _ => decide

theorem fixedCfg_absent (r : ClReg) (h : r.present Config.reference = false) : fixedCfg.get r = 0 := by
  cases r with
  | xsBounds i => revert i; decide
  | xsStep i => revert i; decide
  | xsRelA i => revert i; decide
  | xsRelB i => revert i; decide
  | _ => cases h

/-- The invariant of an armed state with the fixed configuration. -/
theorem inv_fixedAt (fsm : Fsm) (candLen : Nat) (pend : List Byte) (out : List Word) (ho : out.length ≤ 512)
    (hr : Resting (fixedAt fsm candLen pend out)) : Inv (fixedAt fsm candLen pend out) where
  hwLegal := show Config.reference.Legal by decide
  masked := fixedCfg_masked
  absent := fixedCfg_absent
  outFits := ho
  spanFits := Nat.zero_le _
  codes := show (0 : BitVec 8).toNat ≤ 8 ∧ (0 : BitVec 8).toNat ≤ 6 by decide
  ckFlags := ⟨nofun, nofun⟩
  tableSize := List.length_replicate
  unarmed h := absurd rfl h
  failed h := by cases h
  config _ := ⟨show armError Config.reference fixedCfg = none by decide, rfl⟩
  resting _ := hr
  table _ ws h := by cases h

theorem inv_seeking : Inv (fixedAt .seekingHeader 0 [0x00] []) :=
  inv_fixedAt _ _ _ _ (by decide) ⟨fun _ => by decide, nofun, nofun⟩

theorem inv_armed : Inv (fixedAt .seekingHeader 0 [] []) :=
  inv_fixedAt _ _ _ _ (by decide) ⟨fun _ => by decide, nofun, nofun⟩

/-- A FIFO of n words, by its length. -/
theorem length_words {n k : Nat} (h : n ≤ k) : (List.replicate n (0 : Word)).length ≤ k := by
  rw [List.length_replicate]
  exact h

/-- Three bytes of a candidate, and a FIFO with the given words. -/
theorem inv_body (b1 b2 : Byte) (out : List Word) (ho : out.length ≤ 512) :
    Inv (fixedAt .bodyPending 4 [0x7E, b1, b2] out) :=
  inv_fixedAt _ _ _ _ ho ⟨nofun, nofun, fun _ => ⟨rfl, show 3 < 4 by decide,
    show fixedCfg.hdrLen ≤ 4 ∧ 4 ≤ fixedCfg.maxLength ∧ fixedCfg.ckGeom 4 = true by decide⟩⟩

/-- The invariant of an idle state with the fixed configuration. -/
theorem inv_idle : Inv (idleWith fixedCfg) where
  hwLegal := show Config.reference.Legal by decide
  masked := fixedCfg_masked
  absent := fixedCfg_absent
  outFits := Nat.zero_le _
  spanFits := Nat.zero_le _
  codes := show (0 : BitVec 8).toNat ≤ 8 ∧ (0 : BitVec 8).toNat ≤ 6 by decide
  ckFlags := ⟨nofun, nofun⟩
  tableSize := List.length_replicate
  unarmed _ := ⟨rfl, rfl, rfl⟩
  failed h := by cases h
  config h := by cases h
  resting h := by cases h
  table h := by cases h

/-! ## Single steps, with results from the spec -/

/-- What a test looks at in the next state. -/
def after {α : Type} (o : Host.Outcome State Fault Refusal) (f : State → α) : Option α := (nextState o).map f

/-- 43_commands.md R202, example. -/
theorem test_arm_after_reset :
    after (exec (.arm 0) (State.resetFor Config.reference)) (fun t => (statusWord t, t.irqStatus)) =
      some (0x00021002, 0x10) := by decide

/-- 43_commands.md R202: a successful ARM. -/
theorem test_arm_success : after (exec (.arm 0) (idleWith fixedCfg)) (fun t => (statusWord t, t.irqStatus)) =
    some (0x00001001, 0) := by decide

/-- 43_commands.md R203, example. -/
theorem test_disarm : after (exec (.disarm 0) (fixedAt .bodyPending 4 [0x7E, 1, 2] []))
    (fun t => (t.mode, t.pend, t.cntDiscard)) = some (.idle, [], 0) := by decide

/-- 43_commands.md R204: the held candidate is truncated, and its remaining bytes are discarded. -/
theorem test_flush : after (exec (.flush 0) (fixedAt .bodyPending 4 [0x7E, 1, 2] []))
    (fun t => (t.out, t.cntResync, t.cntDiscard, t.irqStatus)) = some ([0x00030004], 1, 2, 0x06) := by decide

/-- 44_bus_operations.md R231, example. -/
theorem test_write_ckCfg : after (exec (.wrCkCfg 0xFFFFFFFF) (State.resetFor Config.reference)) (fun t => t.cfg.ckCfg) =
    some 0x000F1777 := by decide

/-- 10_state.md R43: the lock. -/
theorem test_write_locked : after (exec (.wrCkCfg 0xFFFFFFFF) (armedWith fixedCfg))
    (fun t => (t.cfg.ckCfg, t.lastOpErr, t.irqStatus)) = some (0, 5, 0x20) := by decide

/-- 42_frame_synchronizer.md R187: the last byte of a valid frame. -/
theorem test_data8_emits : after (exec (.data8 0x81) (fixedAt .bodyPending 4 [0x7E, 0x01, 0x02] []))
    (fun t => (t.out, t.pend, t.cntFrames, t.irqStatus)) = some ([0x00040031, 0x8102017E], [], 1, 0x01) := by decide

/-- 42_frame_synchronizer.md R187: the last byte of a false candidate, whose second byte starts the real one. -/
theorem test_data8_resyncs : after (exec (.data8 0x02) (fixedAt .bodyPending 4 [0x7E, 0x7E, 0x01] []))
    (fun t => (t.out, t.pend, t.fsm, t.cntResync)) =
    some ([0x00040002, 0xFD, 0x02], [0x7E, 0x01, 0x02], .bodyPending, 1) := by decide

/-- 44_bus_operations.md R235: four lanes, lane 0 first. -/
theorem test_data32 : after (exec (.data32 0x8102017E) (armedWith fixedCfg)) (fun t => (t.out, t.cntFrames)) =
    some ([0x00040031, 0x8102017E], 1) := by decide

/-- 44_bus_operations.md R236. -/
theorem test_outPop : after (exec .outPop (fixedAt .seekingHeader 0 [] [5, 6])) (fun t => (t.readData, t.out)) =
    some (some 5, [6]) := by decide

/-- 43_commands.md R207, example: CRC-16/CCITT-FALSE of "123456789" is 0x29B1 (40_checksum_engine.md R113). -/
theorem test_ckCompute : after (exec (.ckCompute 0)
      { armedWith dynamicCfg with span := [0x31, 0x32, 0x33, 0x34, 0x35, 0x36, 0x37, 0x38, 0x39] })
    (fun t => (t.ckResult, t.ckValid, t.irqStatus)) = some (0x29B1, true, 0x40) := by decide +kernel

/-- 43_commands.md R208: the same bytes and their stored value as a frame. -/
theorem test_ckVerify : after (exec (.ckVerify 0) { armedWith dynamicCfg with
      span := [0x31, 0x32, 0x33, 0x34, 0x35, 0x36, 0x37, 0x38, 0x39, 0xB1, 0x29] })
    (fun t => (t.ckResult, t.ckStored, t.ckMatch)) = some (0x29B1, 0x29B1, true) := by decide +kernel

/-- 40_checksum_engine.md R107, example. -/
theorem test_xor16 : xor16 xorCfg [0x12, 0x34, 0x56, 0x78, 0x00, 0x00] = 0x4C44 := by decide

/-- 40_checksum_engine.md R104, example. -/
theorem test_sum8 : sum8 [0x80, 0x80, 0x01] = 0x01 := by decide

/-- 60_exceptions.md R269: a Span with one free byte. -/
theorem test_ckData32_one_free : after (exec (.ckData32 0x44332211)
      { armedWith fixedCfg with hw := { Config.reference with ckSpanDepth := 1 } })
    (fun t => (t.span, t.ckOvf, t.lastOpErr)) = some ([0x11], true, 4) := by decide

/-- 44_bus_operations.md R239. -/
theorem test_irqW1c : after (exec (.irqW1c 0xFFFFFF21) { idleWith fixedCfg with irqStatus := 0x63 })
    (fun t => t.irqStatus) = some 0x42 := by decide

/-- The length field of 41_length_resolver.md R147 with other widths, signs and orders. -/
def lengthCfg (frameCfg lenField maxLen : Word) : ClRegs :=
  { dynamicCfg with frameCfg := frameCfg, lenField := lenField, maxLen := maxLen }

/-- 41_length_resolver.md R147, the table. -/
theorem test_resolve_table :
    (lengthCfg 0x102 0x00050002 64).resolve [0xAA, 0x55] = .need ∧
    (lengthCfg 0x102 0x00050002 20).resolve [0xAA, 0x55, 0x10] = .invalid .overMax 0x10 ∧
    (lengthCfg 0x302 0x00050002 64).resolve [0xAA, 0x55, 0xFB] = .invalid .notPositive 0xFB ∧
    (lengthCfg 0x302 0x00050002 64).resolve [0xAA, 0x55, 0x80] = .invalid .notPositive 0x80 ∧
    (lengthCfg 0x102 0x00000002 64).resolve [0xAA, 0x55, 0x03] = .ok 3 ∧
    (lengthCfg 0x102 0x00000002 64).resolve [0xAA, 0x55, 0x02] = .invalid .geometry 0x02 ∧
    (lengthCfg 0x1102 0x00000002 300).resolve [0xAA, 0x55, 0x01, 0x00] = .invalid .geometry 0x01 ∧
    (lengthCfg 0x1502 0x00000002 300).resolve [0xAA, 0x55, 0x01, 0x00] = .ok 256 ∧
    (lengthCfg 0x1502 0x00000002 300).resolve [0xAA, 0x55, 0x01] = .need := by decide

/-- 30_encoding.md R96, R97: `CMD ARM`, `PUSHW AA, 55, 10, 00`, and their listing. -/
theorem test_listing :
    [HostOp.cmd 1, HostOp.pushw 0xAA 0x55 0x10 0x00].flatMap HostOp.expand =
      [.write 0x010 1, .write 0x104 0x001055AA] ∧
    BusOp.listing 0 (.write 0x010 1) = "W 010 00000001" := by decide

/-! ## Witnesses: for each statement with hypotheses, a state and operands that meet them -/

theorem witness_DecodeEncodeRoundTrip : Instr.wellFormed (.reservedAccess (.read 0x024)) = true := by decide

theorem witness_EveryEncodedObjectIsOneInstruction :
    ∀ op, Encoded.bus (.write 0xFFC 1) = .bus op → op.offset.extractLsb' 0 2 = 0#2 := by
  intro op h
  cases h
  decide

theorem witness_ProtocolViolationsAreRefused : ∃ s : State, s.hw.Legal ∧
    s.host = [.access (Access.atBus s.hw.base .read 4 0x1000 0)] ∧
    s.host = .access ⟨.read, 4, 0x1000, 0⟩ :: [] :=
  ⟨{ State.resetFor Config.reference with host := [.access ⟨.read, 4, 0x1000, 0⟩] }, by decide, by decide, by decide⟩

theorem witness_StepRunsDecodedAccess :
    (∃ s : State, s.host = [.access ⟨.write, 4, 0x100, 7⟩]) ∧
    decodeAccess ⟨.write, 4, 0x100, 7⟩ = .ok (.data8 7) ∧
    Instr.wellFormed (.data8 7) = true ∧ encode (.data8 7) = .bus (.write 0x100 7) ∧
    (BusOp.write 0x100 7).toAccess = ⟨.write, 4, 0x100, 7⟩ ∧ encode (.arm 0) = .cmd 1 :=
  ⟨⟨{ State.resetFor Config.reference with host := _ }, rfl⟩, by decide⟩

theorem witness_CommandWriteRunsSelectedCommand :
    encode (.softReset 0xFFFFFFF) = .cmd 0xFFFFFFFF ∧
    (0xFFFFFFF0 : Word).extractLsb' 0 4 = (0x00000000 : Word).extractLsb' 0 4 := by decide

theorem witness_NoAutonomousStep : State.reset.host = [] := rfl

theorem witness_HardwareResetIsSoftReset : ∃ s : State, s.host = .hwReset :: [] :=
  ⟨{ armedWith fixedCfg with host := [.hwReset] }, rfl⟩

theorem witness_IdentificationReads : (State.resetFor Config.reference).hw.Legal ∧
    HwParams.Legal ⟨65535, 65535, 65535, 8, 8, 8, true, 0⟩ ∧ HwParams.Legal ⟨2, 3, 1, 1, 1, 1, false, 4096⟩ := by decide

/-- STATUS: both clauses about FSM. -/
theorem witness_StatusReadReportsFields :
    (fixedAt .bodyPending 4 [0x7E] []).mode = .armed ∧ (idleWith fixedCfg).mode ≠ .armed := by decide

theorem witness_StateRegisterReads : Inv (fixedAt .seekingHeader 0 [0x00] []) := inv_seeking

theorem witness_ConfigRegisterReads : Inv (idleWith fixedCfg) := inv_idle

/-- Slices 0 and 7, the ends of the range. -/
theorem witness_SliceRegisterReads :
    decodeBus (.read (BitVec.ofNat 12 (0x080 + 16 * (0 : Fin 8).val))) = .ok .rdXsBounds0 ∧
    decodeBus (.read (BitVec.ofNat 12 (0x08C + 16 * (7 : Fin 8).val))) = .ok (.reservedAccess (.read 0x0FC)) := by
  decide

/-- Locked and writable; a listed register, and the last slice of a build with eight. -/
theorem witness_RegisterWritesMaskAndLock :
    (armedWith fixedCfg).mode = .armed ∧ (idleWith fixedCfg).mode ≠ .armed ∧
    (7 : Fin 8).val < HwParams.nSlices { Config.reference with nSlices := 8 } ∧
    decodeBus (.write (BitVec.ofNat 12 (0x084 + 16 * (7 : Fin 8).val)) 5) = .ok (.reservedAccess (.write 0x0F4 5)) := by
  decide

/-- Slice 3 in builds with three and with four slices, locked and writable. -/
theorem witness_SliceRegisterWrites :
    HwParams.nSlices { Config.reference with nSlices := 3 } ≤ 3 ∧ 3 < Config.reference.nSlices ∧
    (armedWith fixedCfg).mode = .armed ∧ (idleWith fixedCfg).mode ≠ .armed := by decide

/-- Below the slice table, right behind the build's slices, and a register of the other direction. -/
theorem witness_ReservedAccessesHaveNoEffect : Config.reference.Legal ∧
    ¬(0x080 ≤ (0x07C#12).toNat ∧ (0x07C#12).toNat < 0x080 + 16 * Config.reference.nSlices) ∧
    ¬(0x080 ≤ (0x0C0#12).toNat ∧ (0x0C0#12).toNat < 0x080 + 16 * Config.reference.nSlices) ∧
    decodeBus (.read 0x07C) = .ok (.reservedAccess (.read 0x07C)) ∧
    decodeBus (.write 0x0C0 1) = .ok (.reservedAccess (.write 0x0C0 1)) ∧
    decodeBus (.read 0x010) = .ok (.reservedAccess (.read 0x010)) ∧
    decodeBus (.write 0x014 1) = .ok (.reservedAccess (.write 0x014 1)) := by decide

theorem witness_InterruptBitsClearedOnlyByHost :
    after (exec (.irqW1c 0x40) { idleWith fixedCfg with irqStatus := 0x40 }) (fun t => t.irqStatus.getLsbD 6) =
      some false ∧ (0x40#7).getLsbD 6 = true := by decide

/-- Armed; the first and the last check; and a configuration that passes all. -/
theorem witness_ArmChecksAndEffects :
    (armedWith fixedCfg).mode = .armed ∧ (idleWith fixedCfg).mode ≠ .armed ∧
    ArmCheckFails Config.reference { fixedCfg with ckCfg := 5 } 1 ∧
    ArmCheckFails Config.reference { fixedCfg with ckStoreAt := 4 } 8 ∧
    armError Config.reference { fixedCfg with ckStoreAt := 4 } = some .badGeometry ∧
    armError Config.reference fixedCfg = none ∧ armError Config.reference dynamicCfg = none := by
  refine ⟨by decide, by decide, Or.inl (by decide), ⟨by decide, by decide⟩, by decide, by decide, by decide⟩

/-- No earlier check fails where check 8 does, and none at all for the fixed configuration. -/
theorem witness_ArmChecksAndEffects_order :
    (∀ j, j < 8 → ¬ArmCheckFails Config.reference { fixedCfg with ckStoreAt := 4 } j) ∧
    (∀ j, ¬ArmCheckFails Config.reference fixedCfg j) := by
  obtain ⟨a1, a2, a3, a4, a5, a6, a7, -⟩ := armChecks_iff Config.reference { fixedCfg with ckStoreAt := 4 }
  obtain ⟨b1, b2, b3, b4, b5, b6, b7, b8⟩ := armChecks_iff Config.reference fixedCfg
  constructor
  · intro j hj
    rcases j with _ | _ | _ | _ | _ | _ | _ | _ | j
    · exact id
    · exact fun h => absurd (a1.2 h) (by decide)
    · exact fun h => absurd (a2.2 h) (by decide)
    · exact fun h => absurd (a3.2 h) (by decide)
    · exact fun h => absurd (a4.2 h) (by decide)
    · exact fun h => absurd (a5.2 h) (by decide)
    · exact fun h => absurd (a6.2 h) (by decide)
    · exact fun h => absurd (a7.2 h) (by decide)
    · omega
  · intro j
    rcases j with _ | _ | _ | _ | _ | _ | _ | _ | _ | j
    · exact id
    · exact fun h => absurd (b1.2 h) (by decide)
    · exact fun h => absurd (b2.2 h) (by decide)
    · exact fun h => absurd (b3.2 h) (by decide)
    · exact fun h => absurd (b4.2 h) (by decide)
    · exact fun h => absurd (b5.2 h) (by decide)
    · exact fun h => absurd (b6.2 h) (by decide)
    · exact fun h => absurd (b7.2 h) (by decide)
    · exact fun h => absurd (b8.2 h) (by decide)
    · exact id

theorem witness_CkInitStartsSpan : (armedWith fixedCfg).mode = .armed ∧ (idleWith fixedCfg).mode ≠ .armed := by decide

/-- A slice that does not fit an empty span, one that fits six bytes, and another family. -/
theorem witness_CkComputeWholeSpan : xorCfg.family = some .xor16 ∧ fixedCfg.family = some .sum8 ∧
    (∃ x ∈ xorCfg.xs.toList.take xorCfg.xsCount, x.legal xorCfg.rangeIncl 0 = false) ∧
    (∀ x ∈ xorCfg.xs.toList.take xorCfg.xsCount, x.legal xorCfg.rangeIncl 6 = true) ∧
    (armedWith xorCfg).mode = .armed := by decide

/-- The geometry fails for an empty span and holds for four bytes. -/
theorem witness_CkVerifySpanAsFrame : (armedWith fixedCfg).mode = .armed ∧ fixedCfg.family = some .sum8 ∧
    fixedCfg.ckGeom 0 = false ∧ fixedCfg.ckGeom 4 = true := by decide

theorem witness_FlushResolvesCandidates : (fixedAt .bodyPending 4 [0x7E, 1, 2] []).mode = .armed ∧
    Inv (fixedAt .bodyPending 4 [0x7E, 1, 2] []) := ⟨rfl, inv_body 1 2 [] (by decide)⟩

theorem witness_TableStepEqualsBitwiseStep : 8 ≤ 8 ∧ 8 ≤ 16 ∧ 8 ≤ 32 := by decide

theorem witness_CrcMethodUnobservable :
    (after (exec (.ckCompute 0) (armedWith dynamicCfg)) (fun t => t.ckResult)).isSome = true ∧
    dynamicCfg.withMethod true ≠ dynamicCfg := by decide +kernel

/-- A range before the store field, and slices before it. -/
theorem witness_WrittenChecksumVerifies :
    (fixedCfg.family = some .sum8 ∧ fixedCfg.storeWidth ≠ 3 ∧ CkFamily.sum8.resultBytes ≤ fixedCfg.sw ∧
      fixedCfg.ckGeom 4 = true ∧
      ∀ q : Int, absOff fixedCfg.rangeFrom 4 ≤ q →
        (if fixedCfg.rangeIncl then q ≤ absOff fixedCfg.rangeTo 4 else q < absOff fixedCfg.rangeTo 4) →
        ¬fixedCfg.inStore 4 q) ∧
    (xorCfg.family = some .xor16 ∧ xorCfg.storeWidth ≠ 3 ∧ CkFamily.xor16.resultBytes ≤ xorCfg.sw ∧
      xorCfg.ckGeom 6 = true ∧
      ∀ x ∈ xorCfg.usedSlices, ∀ v ∈ x.visits xorCfg.rangeIncl 6, ¬(xorCfg.storePos 6 ≤ v.1 ∧ v.1 < xorCfg.storePos 6 + xorCfg.sw)) := by
  refine ⟨⟨by decide, by decide, by decide, by decide, ?_⟩, by decide⟩
  have h1 : absOff fixedCfg.rangeTo 4 = 3 := by decide
  have h2 : fixedCfg.storePos 4 = 3 := by decide
  have h3 : fixedCfg.rangeIncl = false := by decide
  intro q _ hq
  simp only [h3, h1, ClRegs.inStore, h2] at *
  simp at hq
  omega

/-- The least width; a CRC16 and a CRC32 configuration whose geometry fits, the second with an empty coverage. -/
theorem witness_NamedCrcVariants : 8 ≤ 8 ∧ dynamicCfg.ckCfg.toNat % 8 = 3 ∧ dynamicCfg.ckGeom 3 = true ∧
    ClRegs.ckGeom { fixedCfg with ckCfg := 0x264, ckRange := 0, ckStoreAt := 0 } 4 = true ∧
    ClRegs.covered { fixedCfg with ckCfg := 0x264, ckRange := 0, ckStoreAt := 0 } [1, 2, 3, 4] = [] ∧
    (0x264 : Word).toNat % 8 = 4 := by decide

/-- Bounds half-open to the end of the frame and inclusive to its last byte; both ends of the positions and of the relative
offsets; a legal slice of TYPE 2, with its geometry. -/
theorem witness_SliceVisitsAndLanes :
    1 ≤ XsSlice.stride ⟨0x00040000, 0x0202, 0x0100, 0⟩ ∧ boundsLegal false 0 4 4 = true ∧ boundsLegal true 0 3 4 = true ∧
    ([0x12, 0x34] : List Byte)[1]? = some 0x34 ∧
    (XsSlice.positions ⟨0x00040000, 0x0202, 0x0100, 0⟩ false 4)[0]? = some 0 ∧
    (XsSlice.positions ⟨0x00040000, 0x0202, 0x0100, 0⟩ false 4)[1]? = some 2 ∧
    1 < XsSlice.nRel ⟨0x00040000, 0x0202, 0x0100, 0⟩ ∧ xorCfg.ckCfg.toNat % 8 = 2 ∧ xorCfg.xsCount = 1 ∧
    (∀ x ∈ xorCfg.xs.toList.take xorCfg.xsCount, x.legal xorCfg.rangeIncl 6 = true) ∧ xorCfg.ckGeom 6 = true := by decide

/-- The boundary: an empty half-open range at the end, and an inclusive one to the last byte. -/
theorem witness_RangeAndGeometry :
    ClRegs.rangeLegal { fixedCfg with ckRange := 0x00040004 } 4 = true ∧
    ClRegs.rangeLegal { fixedCfg with ckRange := 0xFFFF0000, ckCfg := 0x10 } 4 = true ∧
    fixedCfg.ckGeom 4 = true ∧ fixedCfg.ckType ≠ 2 ∧ xorCfg.ckType = 2 := by decide

theorem witness_StoredValueIsByteSum : fixedCfg.storeWidth ≠ 3 ∧ fixedCfg.ckGeom 4 = true ∧
    ((3 : Nat) : Int) = fixedCfg.storePos 4 ∧ dynamicCfg.ckGeom 2 = true ∧
    ((0 : Nat) : Int) = dynamicCfg.storePos 2 := by decide

/-- Fixed; the field one byte short; the field just complete. -/
theorem witness_LengthResolution : fixedCfg.dynamic = false ∧ dynamicCfg.dynamic = true ∧
    2 < dynamicCfg.lenOff + dynamicCfg.lw ∧ dynamicCfg.lenOff + dynamicCfg.lw ≤ 3 ∧ dynamicCfg.lenWidth ≠ 3 := by decide

/-- All three width codes, a header of eight bytes, and the first and last TYPE code of each clause. -/
theorem witness_ConfigFieldsAsIntegers :
    ClRegs.hdrLen { fixedCfg with frameCfg := 8 } = 8 ∧
    (0x2000 : Word).toNat / 4096 % 4 = 2 ∧ (0x1000 : Word).toNat / 4096 % 4 = 1 ∧ (0x200 : Word).toNat / 256 % 4 = 2 ∧
    (0xFFFFFFF8 : Word).toNat % 8 = 0 ∧ (0xFFFFFFFC : Word).toNat % 8 = 4 ∧ 5 ≤ (0xFFFFFFFD : Word).toNat % 8 ∧
    5 ≤ (0xFFFFFFFF : Word).toNat % 8 := by
  decide

theorem witness_PushRunsSynchronizer : Inv (fixedAt .seekingHeader 0 [0x00] []) ∧
    (fixedAt .seekingHeader 0 [0x00] []).mode = .armed ∧ (idleWith fixedCfg).mode ≠ .armed :=
  ⟨inv_seeking, rfl, by decide⟩

theorem witness_RunHasOneResult : RunsTo (fixedAt .bodyPending 4 [0x7E, 1, 2] []) (fixedAt .bodyPending 4 [0x7E, 1, 2] []) :=
  .bodyNeed _ rfl (by decide)

/-- A byte that just fills the window, and one more. -/
theorem witness_NoiseByteAndWindowGuard : ∀ pend ∈ ([List.replicate 7 0, List.replicate 8 0] : List (List Byte)),
    (fixedAt .seekingHeader 0 pend []).mode = .armed ∧ (fixedAt .seekingHeader 0 pend []).fsm = .seekingHeader ∧
    (fixedAt .seekingHeader 0 pend []).cfg.window = 8 ∧
    ∀ p, ¬Matches (fixedAt .seekingHeader 0 pend []).cfg.hdr (pend ++ [(0x100 : Word).setWidth 8]) p := by
  intro pend h
  refine ⟨rfl, rfl, (by decide : fixedCfg.window = 8), (firstMatch_eq_none_iff _ _).1 ?_⟩
  revert pend
  decide

/-- A byte of an incomplete candidate; the last byte with a FIFO that has just room for the record, and one that has
not. -/
theorem witness_LastByteEmitsValidFrame :
    ([0x7E, 0x01] ++ [(0x02 : Word).setWidth 8] : List Byte).length < 4 ∧
    Inv (fixedAt .bodyPending 4 [0x7E, 0x01, 0x02] (List.replicate 510 0)) ∧
    Inv (fixedAt .bodyPending 4 [0x7E, 0x01, 0x02] (List.replicate 511 0)) ∧
    (∃ v, fixedCfg.verify ([0x7E, 0x01, 0x02] ++ [(0x81 : Word).setWidth 8]) = some v ∧ v.ok = true) :=
  ⟨by decide, inv_body _ _ _ (length_words (by decide)), inv_body _ _ _ (length_words (by decide)), ⟨⟨true, 0x81, 0x81⟩, by decide, rfl⟩⟩

/-- The last byte of a failing candidate, with just room for a MISMATCH record and with one word less. -/
theorem witness_LastByteResyncsFailedFrame :
    Inv (fixedAt .bodyPending 4 [0x7E, 0x7E, 0x01] (List.replicate 509 0)) ∧
    Inv (fixedAt .bodyPending 4 [0x7E, 0x7E, 0x01] (List.replicate 510 0)) ∧
    fixedCfg.verify ([0x7E, 0x7E, 0x01] ++ [(0x02 : Word).setWidth 8]) = some ⟨false, 0xFD, 0x02⟩ :=
  ⟨inv_body _ _ _ (length_words (by decide)), inv_body _ _ _ (length_words (by decide)), by decide⟩

theorem witness_FrameRecordLayout : 1 < (([1, 2, 3, 4, 5] : List Byte).length + 3) / 4 ∧ 3 < 4 ∧
    ¬4 * 1 + 3 < ([1, 2, 3, 4, 5] : List Byte).length ∧ ([1, 2, 3, 4, 5] : List Byte).length < 65536 ∧
    65535 < 65536 := by decide

theorem witness_Data32IsFourPushes : Inv (fixedAt .bodyPending 4 [0x7E, 1, 2] []) ∧ Inv (idleWith fixedCfg) :=
  ⟨inv_body 1 2 [] (by decide), inv_idle⟩

theorem witness_PushAndFlushFrame : Inv (fixedAt .bodyPending 4 [0x7E, 1, 2] []) ∧
    (fixedAt .bodyPending 4 [0x7E, 1, 2] []).mode = .armed := ⟨inv_body 1 2 [] (by decide), rfl⟩

theorem witness_OutPopReturnsOldestWord : (fixedAt .seekingHeader 0 [] []).out = [] ∧
    (fixedAt .seekingHeader 0 [] [5, 6]).out = 5 :: [6] := by decide

/-- A full Span, and one with one free byte. -/
theorem witness_CkData8AppendsToSpan :
    (∃ s : State, s.mode = .armed ∧ s.span.length = s.hw.ckSpanDepth) ∧
    (∃ s : State, s.mode = .armed ∧ s.span.length + 1 = s.hw.ckSpanDepth ∧ s.span.length < s.hw.ckSpanDepth) ∧
    (∃ s : State, s.mode ≠ .armed) :=
  ⟨⟨{ armedWith fixedCfg with span := List.replicate 1024 0 }, rfl, List.length_replicate⟩,
    ⟨{ armedWith fixedCfg with span := List.replicate 1023 0 }, rfl,
      by show (List.replicate 1023 (0 : Byte)).length + 1 = 1024; rw [List.length_replicate],
      by show (List.replicate 1023 (0 : Byte)).length < 1024; rw [List.length_replicate]; decide⟩,
    ⟨idleWith fixedCfg, by decide⟩⟩

/-- Just room for four lanes, room for three, and none. -/
theorem witness_CkData32StoresLanesThatFit : ∀ n ∈ [1020, 1021, 1024], ∃ s : State,
    s.mode = .armed ∧ s.span.length = n ∧ s.span.length ≤ s.hw.ckSpanDepth ∧ s.hw.ckSpanDepth = 1024 := by
  intro n hn
  refine ⟨{ armedWith fixedCfg with span := List.replicate n 0 }, rfl, List.length_replicate, ?_, rfl⟩
  show (List.replicate n (0 : Byte)).length ≤ 1024
  rw [List.length_replicate]
  simp at hn
  omega

theorem witness_StepKeepsInvariant : Inv (fixedAt .seekingHeader 0 [0x00] []) ∧
    (nextState (step (fixedAt .seekingHeader 0 [0x00] []))).isSome = true := ⟨inv_seeking, by decide⟩

theorem witness_EveryInstructionCompletes : Inv (fixedAt .bodyPending 4 [0x7E, 1, 2] []) := inv_body 1 2 [] (by decide)

theorem witness_ResetMeetsInvariant : Config.reference.Legal := by decide

/-- A push keeps a session's mode. -/
theorem witness_SessionConfigurationIsLocked :
    after (step { armedWith fixedCfg with host := hostEvents [.push [0x7E]] }) (fun t => t.mode) = some .armed ∧
    (armedWith fixedCfg).mode = .armed := by decide

/-- ARM that passes, ARM that fails, ARM while armed, DISARM. -/
theorem witness_ModeTransitions :
    after (exec (.arm 0) (idleWith fixedCfg)) State.mode = some .armed ∧
    after (exec (.arm 0) (idleWith State.zeroCfg)) State.mode = some .cfgErr ∧
    after (exec (.arm 0) (armedWith fixedCfg)) State.mode = some .armed ∧
    after (exec (.cmdWrite 2) (armedWith fixedCfg)) State.mode = some .idle := by decide

theorem witness_PendIsBounded : Inv (fixedAt .bodyPending 4 [0x7E, 1, 2] []) ∧ Inv (idleWith fixedCfg) :=
  ⟨inv_body 1 2 [] (by decide), inv_idle⟩

/-- Nine bytes of noise against a window of eight. -/
theorem witness_NoisePlateausAtWindow : Inv (fixedAt .seekingHeader 0 [] []) ∧
    (fixedAt .seekingHeader 0 [] []).pend = [] ∧
    ∀ p, ¬Matches (fixedAt .seekingHeader 0 [] []).cfg.hdr [1, 2, 3, 4, 5, 6, 7, 8, 9] p :=
  ⟨inv_armed, rfl, (firstMatch_eq_none_iff _ _).1 (by decide)⟩

/-- Just the room the three conditions ask for. -/
theorem witness_NoRecordLostWithRoom : Inv (fixedAt .bodyPending 4 [0x7E, 1, 2] (List.replicate 491 0)) ∧
    3 * (3 + 4) ≤ 512 - 491 ∧
    (after (exec (.data32 0) (fixedAt .bodyPending 4 [0x7E, 1, 2] [])) State.mode).isSome = true ∧
    (after (exec (.data8 0) (fixedAt .bodyPending 4 [0x7E, 1, 2] [])) State.mode).isSome = true ∧
    (after (exec (.flush 0) (fixedAt .bodyPending 4 [0x7E, 1, 2] [])) State.mode).isSome = true :=
  ⟨inv_body _ _ _ (length_words (by decide)), by decide, by decide, by decide, by decide⟩

/-- A push that finds a header, so that CandLen becomes meaningful. -/
theorem witness_HiddenStateUnobservable : (fixedAt .seekingHeader 0 [] []).fsm ≠ .bodyPending ∧
    after (exec (.data8 0x7E) (fixedAt .seekingHeader 0 [] [])) State.fsm = some .bodyPending := by decide

end Sys2Proof.Tests
end

section
/-! PROOFS. Family 00_scope.md: which accesses the step refuses (00_scope.md R19, 20_memory.md R64). -/

namespace Sys2Proof.Proofs

open Sys2Proof Sys2Proof.Machine

/-! ## The accesses the bus accepts -/

/-- A host-protocol violation, as 00_scope.md R19 and 20_memory.md R64 put it. -/
def ViolatesProtocol (a : Access) : Prop := a.bytes ≠ 4 ∨ a.off < 0 ∨ 0xFFF < a.off ∨ a.off % 4 ≠ 0

theorem toBusOp_of_violatesProtocol {a : Access} (h : ViolatesProtocol a) : ∃ why, a.toBusOp = .error why := by
  unfold Access.toBusOp
  by_cases hbytes : a.bytes = 4
  · by_cases hwindow : a.off < 0 ∨ 0xFFF < a.off
    · exact ⟨.outsideWindow, by simp [hbytes, hwindow]⟩
    · have hmis : a.off.toNat % 4 ≠ 0 := by
        unfold ViolatesProtocol at h
        omega
      exact ⟨.misaligned, by simp [hbytes, hwindow, hmis]⟩
  · exact ⟨.notWordAccess, by simp [hbytes]⟩

/-- Bits [1:0] of an offset in the window are 00 when it is a multiple of 4 (30_encoding.md R81). -/
theorem aligned_of_toNat_offset {op : BusOp} {n : Nat} (hop : op.offset = BitVec.ofNat 12 n) (hn : n % 4 = 0) :
    op.aligned = true := by
  unfold BusOp.aligned
  rw [hop, beq_iff_eq]
  apply BitVec.eq_of_toNat_eq
  simp only [BitVec.extractLsb'_toNat, BitVec.toNat_ofNat, Nat.shiftRight_zero]
  omega

theorem toBusOp_of_not_violatesProtocol {a : Access} (h : ¬ ViolatesProtocol a) :
    ∃ op, a.toBusOp = .ok op ∧ op.aligned = true := by
  unfold ViolatesProtocol at h
  have hbytes : a.bytes = 4 := by omega
  have hwindow : ¬ (a.off < 0 ∨ 0xFFF < a.off) := by omega
  have halign : a.off.toNat % 4 = 0 := by omega
  unfold Access.toBusOp
  cases hdir : a.dir with
  | read =>
    exact ⟨.read (BitVec.ofNat 12 a.off.toNat), by simp [hbytes, hwindow, halign], aligned_of_toNat_offset rfl halign⟩
  | write =>
    exact ⟨.write (BitVec.ofNat 12 a.off.toNat) a.data, by simp [hbytes, hwindow, halign],
      aligned_of_toNat_offset rfl halign⟩

/-- Every aligned bus operation selects an instruction: what has no row of its own is a RESERVED_ACCESS
(30_encoding.md R94). -/
theorem decodeBus_of_aligned {op : BusOp} (h : op.aligned = true) : ∃ i, decodeBus op = .ok i := by
  unfold decodeBus
  rw [if_pos h]
  cases op with
  | read off => exact ⟨_, rfl⟩
  | write off data =>
    cases hrow : writeRows.lookup off with
    | some row => exact ⟨row data, by simp [hrow]⟩
    | none => exact ⟨.reservedAccess (.write off data), by simp [hrow]⟩

theorem decodeAccess_of_violatesProtocol {a : Access} (h : ViolatesProtocol a) :
    ∃ why, decodeAccess a = .error why := by
  obtain ⟨why, hwhy⟩ := toBusOp_of_violatesProtocol h
  exact ⟨why, by simp [decodeAccess, hwhy]⟩

theorem decodeAccess_of_not_violatesProtocol {a : Access} (h : ¬ ViolatesProtocol a) : ∃ i, decodeAccess a = .ok i := by
  obtain ⟨op, hop, haligned⟩ := toBusOp_of_not_violatesProtocol h
  obtain ⟨i, hi⟩ := decodeBus_of_aligned haligned
  exact ⟨i, by simp [decodeAccess, hop, hi]⟩

/-- The window begins at a multiple of 4096 (00_scope.md R9), so a bus address and its offset are aligned together. -/
theorem violatesProtocol_atBus_iff {base : Nat} (hbase : base % 4096 = 0) (dir : Dir) (bytes addr : Nat) (data : Word) :
    ViolatesProtocol (Access.atBus base dir bytes addr data) ↔
      (bytes ≠ 4 ∨ addr < base ∨ base + 0xFFF < addr ∨ addr % 4 ≠ 0) := by
  simp only [ViolatesProtocol, Access.atBus]
  omega

/-! ## No instruction is refused -/

/-- The outcome is a next state or a fault, but no refusal. -/
def Answered : Host.Outcome State Fault Refusal → Prop
  | .next _ => True
  | .fault _ => True
  | .refused _ => False

theorem Answered.ne_refused {o : Host.Outcome State Fault Refusal} (h : Answered o) (why : Refusal) :
    o ≠ .refused why := by
  rintro rfl
  exact h

theorem toOutcome_answered (r : Except Fault State) : Answered (toOutcome r) := by
  cases r with
  | ok t => exact trivial
  | error f => exact trivial

theorem execArm_answered (ign : BitVec 28) (s : State) : Answered (execArm ign s) := by
  unfold execArm
  split
  · exact trivial
  · split <;> exact trivial

theorem execOutPop_answered (s : State) : Answered (execOutPop s) := by
  unfold execOutPop
  split <;> exact trivial

theorem execReservedAccess_answered (op : BusOp) (s : State) : Answered (execReservedAccess op s) := by
  cases op with
  | read off => exact trivial
  | write off data => exact trivial

/-- Of the sixteen arms, in opcode order, ARM, FLUSH, CK_COMPUTE and CK_VERIFY (0x1, 0x3, 0x5, 0x6) branch or can fault. -/
theorem execCmdWrite_answered (data : Word) (s : State) : Answered (execCmdWrite data s) := by
  unfold execCmdWrite
  extract_lets ign
  split
  case h_2 => exact execArm_answered ign s
  case h_4 => exact toOutcome_answered _
  case h_6 => exact toOutcome_answered _
  case h_7 => exact toOutcome_answered _
  all_goals exact trivial

/-- Only the instructions with a branch or a fault need an argument; the meaning of every other one is a next state. -/
theorem exec_answered (i : Instr) (s : State) : Answered (exec i s) := by
  cases i with
  | arm ign => exact execArm_answered ign s
  | flush ign => exact toOutcome_answered _
  | ckCompute ign => exact toOutcome_answered _
  | ckVerify ign => exact toOutcome_answered _
  | cmdWrite data => exact execCmdWrite_answered data s
  | data8 data => exact toOutcome_answered _
  | data32 data => exact toOutcome_answered _
  | outPop => exact execOutPop_answered s
  | reservedAccess op => exact execReservedAccess_answered op s
  | _ => exact trivial

/-! ## The step on an access -/

theorem step_of_decodeAccess_ok {s : State} {a : Access} {rest : List HostEvent} {i : Instr}
    (hhost : s.host = .access a :: rest) (hdec : decodeAccess a = .ok i) : step s = exec i (s.accepting rest) := by
  simp only [step, hhost, hdec]

theorem step_of_decodeAccess_error {s : State} {a : Access} {rest : List HostEvent} {why : Reject}
    (hhost : s.host = .access a :: rest) (hdec : decodeAccess a = .error why) :
    step s = .refused (.hostProtocol why) := by
  simp only [step, hhost, hdec]

theorem step_refused_iff_violatesProtocol {s : State} {a : Access} {rest : List HostEvent}
    (hhost : s.host = .access a :: rest) : (∃ why, step s = .refused why) ↔ ViolatesProtocol a := by
  constructor
  · rintro ⟨why, hstep⟩
    by_contra hok
    obtain ⟨i, hi⟩ := decodeAccess_of_not_violatesProtocol hok
    rw [step_of_decodeAccess_ok hhost hi] at hstep
    exact (exec_answered i (s.accepting rest)).ne_refused why hstep
  · intro hviol
    obtain ⟨why, hwhy⟩ := decodeAccess_of_violatesProtocol hviol
    exact ⟨.hostProtocol why, step_of_decodeAccess_error hhost hwhy⟩

/-- Settles O4: an access decodes unless it violates the protocol, and no decoded instruction is refused. -/
theorem protocolViolationsAreRefused : Obligations.ProtocolViolationsAreRefused := by
  constructor
  · intro s a rest hhost
    exact step_refused_iff_violatesProtocol hhost
  · intro s dir bytes addr data rest hlegal hhost
    obtain ⟨-, -, -, -, -, -, hbase⟩ := hlegal
    exact (step_refused_iff_violatesProtocol hhost).trans (violatesProtocol_atBus_iff hbase dir bytes addr data)

end Sys2Proof.Proofs
end

section
/-! PROOFS. Family 10_state.md, the layer the others build on: the few shared operations behind the hundred
instructions, and what a step and each operation with a branch can do. -/

namespace Sys2Proof.Proofs

open Sys2Proof Sys2Proof.Machine

/-! ## The shared operations behind the instructions -/

/-- The state with other contents of the two unobservable fields, CandLen and CrcTable (10_state.md R50, R54). -/
abbrev withHidden (len : Nat) (table : List Word) (s : State) : State := { s with candLen := len, crcTable := table }

/-- The meanings an instruction can have. A read carries the proof that its value is none of the hidden contents. -/
inductive SharedMeaning : (State → Host.Outcome State Fault Refusal) → Prop where
  | nothing : SharedMeaning fun s => .next s
  | reservedOpcode : SharedMeaning fun s => .next (reservedOpcode s)
  | read (value : State → Word) (hblind : ∀ len table s, value (withHidden len table s) = value s) :
      SharedMeaning fun s => .next (readReturns (value s) s)
  | write (r : ClReg) (data : Word) : SharedMeaning fun s => .next (writeXs r data s)
  | enableIrq (data : Word) : SharedMeaning (execWrIrqEnable data)
  | ackIrq (bits : BitVec 7) : SharedMeaning fun s => .next (ackIrq bits s)
  | arm (ign : BitVec 28) : SharedMeaning (execArm ign)
  | disarm (ign : BitVec 28) : SharedMeaning (execDisarm ign)
  | softReset (ign : BitVec 28) : SharedMeaning (execSoftReset ign)
  | ckInit (ign : BitVec 28) : SharedMeaning (execCkInit ign)
  | ckCompute (ign : BitVec 28) : SharedMeaning (execCkCompute ign)
  | ckVerify (ign : BitVec 28) : SharedMeaning (execCkVerify ign)
  | flush (ign : BitVec 28) : SharedMeaning (execFlush ign)
  | push (bytes : List Byte) : SharedMeaning fun s => toOutcome (pushBytes bytes s)
  | ckPush (bytes : List Byte) : SharedMeaning fun s => .next (bytes.foldl (fun t b => ckPushByte b t) s)
  | outPop : SharedMeaning execOutPop

/-- A register outside the slice table is in every build, so its write is the slice write too. -/
theorem writeCl_sharedMeaning {r : ClReg} (hslice : r.slice? = none) (data : Word) :
    SharedMeaning fun s => .next (writeCl r data s) := by
  have hwrite : ∀ s, writeXs r data s = writeCl r data s := fun s => by simp [writeXs, ClReg.present, hslice]
  simpa only [hwrite] using SharedMeaning.write r data

theorem pushBytes_singleton (b : Byte) (s : State) : pushBytes [b] s = pushByte b s := by
  unfold pushBytes
  cases pushByte b s <;> rfl

theorem pushBytes_cons {b : Byte} {bytes : List Byte} {s t : State} :
    pushBytes (b :: bytes) s = .ok t ↔ ∃ u, pushByte b s = .ok u ∧ pushBytes bytes u = .ok t := by
  rw [pushBytes]
  cases pushByte b s <;> simp

theorem data8_sharedMeaning (data : Word) : SharedMeaning (execData8 data) := by
  have hpush : execData8 data = fun s => toOutcome (pushBytes [lane data 0] s) :=
    funext fun s => congrArg toOutcome (pushBytes_singleton _ s).symm
  rw [hpush]
  exact .push _

/-- A reserved access is nothing, a read of 0, or the access of a slice the table has no rows for (log entry 13). -/
theorem reservedAccess_sharedMeaning (op : BusOp) : SharedMeaning (execReservedAccess op) := by
  cases op with
  | read off =>
    change SharedMeaning fun s => execReservedAccess (.read off) s
    simp only [execReservedAccess]
    cases xsRegAt off with
    | none => exact .read (fun _ => 0) fun _ _ _ => rfl
    | some r => exact .read (fun s => if r.present s.hw then s.cfg.get r else 0) fun _ _ _ => rfl
  | write off data =>
    change SharedMeaning fun s => execReservedAccess (.write off data) s
    simp only [execReservedAccess]
    cases xsRegAt off with
    | none => exact .nothing
    | some r => exact .write r data

/-- CMD_WRITE runs the command its word decodes to (44_bus_operations.md R233). -/
theorem execCmdWrite_eq_exec_decodeCmd (data : Word) : execCmdWrite data = exec (decodeCmd data) := by
  funext s
  unfold execCmdWrite decodeCmd
  generalize (data.extractLsb' 0 4).toNat = opcode
  match opcode with
  | 0 | 1 | 2 | 3 | 4 | 5 | 6 | 7 | 8 | 9 | 10 | 11 | 12 | 13 | 14 => rfl
  | _ + 15 => rfl

theorem decodeCmd_ne_cmdWrite (data data' : Word) : decodeCmd data ≠ .cmdWrite data' := by
  unfold decodeCmd
  extract_lets ign
  split <;> nofun

/-- The instructions but CMD_WRITE; the last case is the reads. -/
theorem exec_sharedMeaning_of_ne_cmdWrite (i : Instr) (h : ∀ data, i ≠ .cmdWrite data) : SharedMeaning (exec i) := by
  cases i with
  | cmdWrite data => exact absurd rfl (h data)
  | nop ign => exact .nothing
  | reserved7 ign | reserved8 ign | reserved9 ign | reservedA ign | reservedB ign | reservedC ign | reservedD ign
  | reservedE ign => exact .reservedOpcode
  | arm ign => exact .arm ign
  | disarm ign => exact .disarm ign
  | softReset ign => exact .softReset ign
  | ckInit ign => exact .ckInit ign
  | ckCompute ign => exact .ckCompute ign
  | ckVerify ign => exact .ckVerify ign
  | flush ign => exact .flush ign
  | data8 data => exact data8_sharedMeaning data
  | data32 data => exact .push [lane data 0, lane data 1, lane data 2, lane data 3]
  | outPop => exact .outPop
  | ckData8 data => exact .ckPush [lane data 0]
  | ckData32 data => exact .ckPush [lane data 0, lane data 1, lane data 2, lane data 3]
  | irqW1c data => exact .ackIrq _
  | reservedAccess op => exact reservedAccess_sharedMeaning op
  | wrIrqEnable data => exact .enableIrq data
  | wrFrameCfg data | wrFixedLen data | wrLenField data | wrMaxLen data | wrSyncWindow data | wrHdrBytes0 data
  | wrHdrBytes1 data | wrCkCfg data | wrCkRange data | wrCkStoreAt data | wrCrcPoly data | wrCrcInit data
  | wrCrcXorout data => exact writeCl_sharedMeaning rfl data
  | wrXsBounds0 data | wrXsStep0 data | wrXsRela0 data | wrXsRelb0 data | wrXsBounds1 data | wrXsStep1 data
  | wrXsRela1 data | wrXsRelb1 data | wrXsBounds2 data | wrXsStep2 data | wrXsRela2 data | wrXsRelb2 data
  | wrXsBounds3 data | wrXsStep3 data | wrXsRela3 data | wrXsRelb3 data => exact .write _ data
  | _ => exact .read _ fun _ _ _ => rfl

theorem exec_sharedMeaning (i : Instr) : SharedMeaning (exec i) := by
  by_cases h : ∃ data, i = .cmdWrite data
  · obtain ⟨data, rfl⟩ := h
    have hcmd : exec (.cmdWrite data) = exec (decodeCmd data) := execCmdWrite_eq_exec_decodeCmd data
    rw [hcmd]
    exact exec_sharedMeaning_of_ne_cmdWrite _ (decodeCmd_ne_cmdWrite data)
  · exact exec_sharedMeaning_of_ne_cmdWrite i fun data hi => h ⟨data, hi⟩

/-! ## What a step and each operation with a branch can do -/

theorem step_cases {s t : State} (h : step s = .next t) :
    t = s ∨ (∃ rest, t = resetBlock (s.accepting rest)) ∨ ∃ i rest, exec i (s.accepting rest) = .next t := by
  unfold step at h
  split at h
  · cases h
    exact .inl rfl
  · cases h
    exact .inr (.inl ⟨_, rfl⟩)
  · split at h
    · exact .inr (.inr ⟨_, _, h⟩)
    · cases h

theorem toOutcome_eq_next {r : Except Fault State} {t : State} : toOutcome r = .next t ↔ r = .ok t := by
  cases r <;> simp [toOutcome]

theorem whenArmed_cases {s t : State} {run : State → Except Fault State} (h : whenArmed s run = .ok t) :
    (s.mode = .armed ∧ run s = .ok t) ∨ (s.mode ≠ .armed ∧ t = raiseOpErr .badMode s) := by
  unfold whenArmed at h
  split at h
  · exact .inl ⟨‹_›, h⟩
  · cases h
    exact .inr ⟨‹_›, rfl⟩

theorem execArm_cases {ign : BitVec 28} {s t : State} (h : execArm ign s = .next t) :
    (s.mode = .armed ∧ t = raiseOpErr .badMode s) ∨
    (s.mode ≠ .armed ∧ ∃ e, armError s.hw s.cfg = some e ∧ t = raiseCfgErr e s) ∨
    (s.mode ≠ .armed ∧ armError s.hw s.cfg = none ∧ t = armSession s) := by
  unfold execArm at h
  split at h
  · cases h
    exact .inl ⟨‹_›, rfl⟩
  · split at h <;> cases h
    · exact .inr (.inl ⟨‹_›, _, ‹_›, rfl⟩)
    · exact .inr (.inr ⟨‹_›, ‹_›, rfl⟩)

theorem execOutPop_cases {s t : State} (h : execOutPop s = .next t) :
    (s.out = [] ∧ t = readReturns 0 (raiseOpErr .outEmpty s)) ∨
    ∃ v rest, s.out = v :: rest ∧ t = readReturns v { s with out := rest } := by
  unfold execOutPop at h
  split at h <;> cases h
  · exact .inl ⟨‹_›, rfl⟩
  · exact .inr ⟨_, _, ‹_›, rfl⟩

/-- What CK_COMPUTE and CK_VERIFY change in a session: a result and its flags, a match only with a valid result
(43_commands.md R207, R208). -/
def CkReported (s t : State) : Prop :=
  ∃ (valid ok : Bool) (result stored : Word), (ok = true → valid = true) ∧
    t = setIrq .ckDone
      { s with ckResult := result, ckStored := stored, ckValid := valid, ckMatch := ok, ckGeomErr := !valid }

theorem ckComputeSpan_reported {s t : State} (h : ckComputeSpan s = .ok t) : CkReported s t := by
  unfold ckComputeSpan at h
  split at h
  · cases h
    exact ⟨false, false, 0, s.ckStored, id, rfl⟩
  · split at h <;> cases h
    exact ⟨true, false, _, s.ckStored, nofun, rfl⟩

theorem ckVerifySpan_reported {s t : State} (h : ckVerifySpan s = .ok t) : CkReported s t := by
  unfold ckVerifySpan at h
  split at h
  · cases h
    exact ⟨false, false, 0, 0, id, rfl⟩
  · split at h <;> cases h
    exact ⟨true, _, _, _, fun _ => rfl, rfl⟩

theorem flushRemainder_pend (s : State) : (flushRemainder s).pend = [] := by
  rcases flushRemainder_cases s with ⟨hpend, h⟩ | ⟨-, h⟩ <;> rw [h]
  exact hpend

theorem flushRemainder_fsm (s : State) : (flushRemainder s).fsm = s.fsm := by
  rcases flushRemainder_cases s with ⟨-, h⟩ | ⟨-, h⟩ <;> rw [h]

theorem ckPushByte_fsm (b : Byte) (s : State) : (ckPushByte b s).fsm = s.fsm := by
  rcases ckPushByte_cases b s with ⟨-, h⟩ | ⟨-, -, h⟩ | ⟨-, -, h⟩ <;> rw [h]

theorem writeXs_fsm (r : ClReg) (data : Word) (s : State) : (writeXs r data s).fsm = s.fsm := by
  rcases writeXs_cases r data s with ⟨-, hxs⟩ | ⟨-, hxs⟩ <;> rw [hxs]
  rcases writeCl_cases r data s with ⟨-, hcl⟩ | ⟨-, hcl⟩ <;> rw [hcl]

theorem ckReported_fsm {s t : State} (h : CkReported s t) : t.fsm = s.fsm := by
  obtain ⟨valid, ok, result, stored, -, rfl⟩ := h
  rfl

theorem zeroCfg_get (r : ClReg) : State.zeroCfg.get r = 0 := by
  cases r with
  | xsBounds i | xsStep i | xsRelA i | xsRelB i => fin_cases i <;> rfl
  | _ => rfl

end Sys2Proof.Proofs
end

section
/-! PROOFS. Family 10_state.md: the reset values (R57), the identification and STATUS reads (R22-R26) and the slice
table (R42). -/

namespace Sys2Proof.Proofs

open Sys2Proof Sys2Proof.Machine

/-! ## Reset -/

theorem resetValues_reset : ResetValues State.reset where
  mode := rfl
  fsm := rfl
  buffers := ⟨rfl, rfl, rfl⟩
  config := zeroCfg_get
  interrupts := ⟨rfl, rfl, rfl⟩
  flags := ⟨rfl, rfl, rfl, rfl, rfl⟩
  status := rfl
  counters := ⟨rfl, rfl, rfl, rfl⟩
  results := ⟨rfl, rfl⟩
  quiet := rfl

/-- Settles O10: the reads return STATUS as the reset table gives it, and two constants. -/
theorem resetStateHasResetValues : Obligations.ResetStateHasResetValues := by
  have hstatus : exec .rdStatus State.reset = .next (readReturns (statusWord State.reset) State.reset) := rfl
  rw [resetValues_reset.status] at hstatus
  exact ⟨resetValues_reset, hstatus, rfl, rfl⟩

/-! ## Fields of an assembled word -/

theorem extract_shifted_field {n : Nat} (a : BitVec n) (k : Nat) (h : k + n ≤ 32) :
    (a.setWidth 32 <<< k).extractLsb' k n = a := by
  ext i hi
  simp [hi, show k + i < 32 by omega]

theorem extract_outside_shifted_field {n : Nat} (a : BitVec n) (k start len : Nat)
    (h : start + len ≤ k ∨ k + n ≤ start) : (a.setWidth 32 <<< k).extractLsb' start len = 0 := by
  ext i hi
  have hbit : start + i < k ∨ n ≤ start + i - k := by omega
  rcases hbit with hbelow | habove
  · simp [hbelow]
  · simp [BitVec.getLsbD_of_ge a _ habove]

theorem extract_low_field {n : Nat} (a : BitVec n) (h : n ≤ 32) : (a.setWidth 32).extractLsb' 0 n = a := by
  simpa using extract_shifted_field a 0 (by omega)

theorem extract_above_low_field {n : Nat} (a : BitVec n) (start len : Nat) (h : n ≤ start) :
    (a.setWidth 32).extractLsb' start len = 0 := by
  simpa using extract_outside_shifted_field a 0 start len (by omega)

theorem getLsbD_of_extract {w : Word} {k : Nat} {b : Bool} (h : w.extractLsb' k 1 = BitVec.ofBool b) :
    w.getLsbD k = b := by
  have hbit : (w.extractLsb' k 1).getLsbD 0 = w.getLsbD k := by simp
  rw [← hbit, h]
  simp

theorem toNat_of_eq_ofNat {n v : Nat} {x : BitVec n} (h : x = BitVec.ofNat n v) (hv : v < 2 ^ n) : x.toNat = v := by
  rw [h, BitVec.toNat_ofNat, Nat.mod_eq_of_lt hv]

/-! ## Identification -/

theorem hwcfg0Word_fields (h : HwParams) :
    (hwcfg0Word h).extractLsb' 0 16 = BitVec.ofNat 16 h.bufDepth ∧
    (hwcfg0Word h).extractLsb' 16 16 = BitVec.ofNat 16 h.outDepth := by
  constructor <;> simp [hwcfg0Word, BitVec.extractLsb'_or, extract_low_field, extract_above_low_field,
    extract_shifted_field, extract_outside_shifted_field]

theorem hwcfg1Word_fields (h : HwParams) :
    (hwcfg1Word h).extractLsb' 0 16 = BitVec.ofNat 16 h.ckSpanDepth ∧
    (hwcfg1Word h).extractLsb' 16 4 = BitVec.ofNat 4 h.hdrMax ∧
    (hwcfg1Word h).extractLsb' 20 4 = BitVec.ofNat 4 h.nSlices ∧
    (hwcfg1Word h).extractLsb' 24 4 = BitVec.ofNat 4 h.nRel ∧
    (hwcfg1Word h).extractLsb' 28 1 = BitVec.ofBool h.cs15Impl ∧
    (hwcfg1Word h).extractLsb' 29 3 = 0 := by
  refine ⟨?_, ?_, ?_, ?_, ?_, ?_⟩ <;> simp [hwcfg1Word, bitWord, BitVec.extractLsb'_or, extract_low_field,
    extract_above_low_field, extract_shifted_field, extract_outside_shifted_field]

/-- Settles O11: the bounds of 00_scope.md R9 make every parameter fit its field. -/
theorem identificationReads : Obligations.IdentificationReads := by
  intro s hlegal
  obtain ⟨⟨-, hbuf⟩, ⟨-, hout⟩, ⟨-, hspan⟩, ⟨-, hhdr⟩, ⟨-, hslices⟩, ⟨-, hrel⟩, -⟩ := hlegal
  obtain ⟨fbuf, fout⟩ := hwcfg0Word_fields s.hw
  obtain ⟨fspan, fhdr, fslices, frel, fcs15, fzero⟩ := hwcfg1Word_fields s.hw
  refine ⟨rfl, rfl, ⟨hwcfg0Word s.hw, rfl, ?_, ?_⟩,
    ⟨hwcfg1Word s.hw, rfl, ?_, ?_, ?_, ?_, getLsbD_of_extract fcs15, fzero⟩⟩
  · exact toNat_of_eq_ofNat fbuf (by omega)
  · exact toNat_of_eq_ofNat fout (by omega)
  · exact toNat_of_eq_ofNat fspan (by omega)
  · exact toNat_of_eq_ofNat fhdr (by omega)
  · exact toNat_of_eq_ofNat fslices (by omega)
  · exact toNat_of_eq_ofNat frel (by omega)

/-! ## STATUS -/

theorem statusWord_fields (s : State) :
    (statusWord s).extractLsb' 0 2 = s.mode.code ∧
    (statusWord s).extractLsb' 2 2 = (if s.mode = .armed then s.fsm.code else 0) ∧
    (statusWord s).extractLsb' 8 1 = BitVec.ofBool s.ckValid ∧
    (statusWord s).extractLsb' 9 1 = BitVec.ofBool s.ckMatch ∧
    (statusWord s).extractLsb' 10 1 = BitVec.ofBool s.ckGeomErr ∧
    (statusWord s).extractLsb' 11 1 = BitVec.ofBool s.ckOvf ∧
    (statusWord s).extractLsb' 12 1 = BitVec.ofBool s.out.isEmpty ∧
    (statusWord s).extractLsb' 16 8 = s.cfgErrCode := by
  unfold statusWord bitWord
  generalize (if s.mode = .armed then s.fsm.code else 0) = fsmCode
  refine ⟨?_, ?_, ?_, ?_, ?_, ?_, ?_, ?_⟩ <;> simp [BitVec.extractLsb'_or, extract_low_field,
    extract_above_low_field, extract_shifted_field, extract_outside_shifted_field]

theorem statusWord_gaps (s : State) :
    (statusWord s).extractLsb' 4 4 = 0 ∧ (statusWord s).extractLsb' 13 3 = 0 ∧
    (statusWord s).extractLsb' 24 8 = 0 := by
  unfold statusWord bitWord
  refine ⟨?_, ?_, ?_⟩ <;>
    simp [BitVec.extractLsb'_or, extract_above_low_field, extract_outside_shifted_field]

/-- Settles O12, field by field of the assembled word. -/
theorem statusReadReportsFields : Obligations.StatusReadReportsFields := by
  intro s
  obtain ⟨fmode, ffsm, fvalid, fmatch, fgeom, fovf, fempty, fcode⟩ := statusWord_fields s
  obtain ⟨gap4, gap13, gap24⟩ := statusWord_gaps s
  refine ⟨statusWord s, rfl, ?_, fun hm => ?_, fun hm => ?_, gap4, getLsbD_of_extract fvalid,
    getLsbD_of_extract fmatch, getLsbD_of_extract fgeom, getLsbD_of_extract fovf, ?_, gap13, fcode, gap24⟩
  · rw [fmode]
    cases s.mode <;> rfl
  · rw [ffsm, if_pos hm]
    cases s.fsm <;> rfl
  · rw [ffsm, if_neg hm]
  · rw [getLsbD_of_extract fempty, List.isEmpty_iff]

/-! ## The slice table -/

/-- A register of the slice table exists when the build has its slice (10_state.md R42). -/
theorem present_of_slice {r : ClReg} {k : Nat} (hslice : r.slice?.map Fin.val = some k) (hw : HwParams) :
    r.present hw = decide (k < hw.nSlices) := by
  obtain ⟨i, hi, rfl⟩ := Option.map_eq_some_iff.1 hslice
  simp [ClReg.present, hi]

theorem exec_of_readXs {i : Instr} {r : ClReg} {k : Nat} (hslice : r.slice?.map Fin.val = some k)
    (hexec : ∀ s, exec i s = .next (readXs r s)) (s : State) :
    exec i s = .next { s with readData := some (if k < s.hw.nSlices then s.cfg.get r else 0) } := by
  simp [hexec, readXs, readReturns, present_of_slice hslice]

/-- The reads at a slice's offsets run `readXs`: slices 0 to 3 have rows of their own, slices 4 to 7 are
RESERVED_ACCESS (log entry 13). -/
theorem decodeBus_read_slice (n : Fin 8) : ∀ p ∈ ([
    (0x080, .xsBounds n), (0x084, .xsStep n), (0x088, .xsRelA n), (0x08C, .xsRelB n)] : List (Nat × ClReg)),
    ∃ i, decodeBus (.read (BitVec.ofNat 12 (p.1 + 16 * n.val))) = .ok i ∧ ∀ s, exec i s = .next (readXs p.2 s) := by
  intro p hp
  fin_cases hp <;> fin_cases n <;> exact ⟨_, rfl, fun _ => rfl⟩

/-- Settles O15: each row runs `readXs` on its register. -/
theorem sliceRegisterReads : Obligations.SliceRegisterReads := by
  intro s
  constructor
  · intro p hp
    fin_cases hp <;> exact exec_of_readXs rfl (fun _ => rfl) s
  · intro n i p hp hdecode
    obtain ⟨j, hj, hexec⟩ := decodeBus_read_slice n p hp
    obtain rfl : j = i := Except.ok.inj (hj.symm.trans hdecode)
    refine exec_of_readXs ?_ hexec s
    fin_cases hp <;> rfl

/-- What a write to register `r` of slice `k`, whose defined bits are `mask`, does (10_state.md R42, R43;
44_bus_operations.md R231, R232). -/
def WritesSlice (i : Instr) (data : Word) (r : ClReg) (mask : Word) (k : Nat) (s : State) : Prop :=
  (s.hw.nSlices ≤ k → exec i s = .next s) ∧
  (k < s.hw.nSlices → s.mode = .armed →
    exec i s = .next { s with lastOpErr := 5, irqStatus := s.irqStatus ||| 0x20 }) ∧
  (k < s.hw.nSlices → s.mode ≠ .armed → ∃ c : ClRegs, exec i s = .next { s with cfg := c } ∧
    ∀ r' : ClReg, c.get r' = if r' = r then data &&& mask else s.cfg.get r')

/-- The three cases are the absent, the locked and the writable register. -/
theorem writesSlice_of_writeXs {i : Instr} {data mask : Word} {r : ClReg} {k : Nat}
    (hslice : r.slice?.map Fin.val = some k) (hmask : r.mask = mask)
    (hexec : ∀ s, exec i s = .next (writeXs r data s)) (s : State) : WritesSlice i data r mask k s := by
  subst hmask
  unfold WritesSlice
  rw [hexec]
  rcases writeXs_cases r data s with ⟨hpresent, hxs⟩ | ⟨habsent, hxs⟩ <;> rw [hxs]
  · have hin : k < s.hw.nSlices := by simpa [present_of_slice hslice] using hpresent
    rcases writeCl_cases r data s with ⟨hm, hcl⟩ | ⟨hm, hcl⟩ <;> rw [hcl]
    · exact ⟨fun hout => absurd hin (by omega), fun _ _ => rfl, fun _ hunarmed => absurd hm hunarmed⟩
    · exact ⟨fun hout => absurd hin (by omega), fun _ harmed => absurd harmed hm,
        fun _ _ => ⟨_, rfl, fun r' => ClRegs.get_set _ _ _ _⟩⟩
  · have hout : ¬ k < s.hw.nSlices := by simpa [present_of_slice hslice] using habsent
    exact ⟨fun _ => rfl, fun hin => absurd hin hout, fun hin => absurd hin hout⟩

/-- Settles O17: each row runs `writeXs` on its register. -/
theorem sliceRegisterWrites : Obligations.SliceRegisterWrites := by
  intro s data p hp
  fin_cases hp <;> exact writesSlice_of_writeXs rfl rfl (fun _ => rfl) s

end Sys2Proof.Proofs
end

section
/-! PROOFS. Family 10_state.md: the invariant (R58) holds after reset, and every shared operation, hence every step,
keeps it. Each lemma names the fields of the invariant its operation touches; the others are those of the state before. -/

namespace Sys2Proof.Proofs

open Sys2Proof Sys2Proof.Machine

/-! ## Reset -/

theorem clamp_bounds {lo hi : Nat} (h : lo ≤ hi) (n : Nat) : lo ≤ Config.clamp lo hi n ∧ Config.clamp lo hi n ≤ hi := by
  unfold Config.clamp
  omega

theorem clampHw_legal (hw : HwParams) : (Config.clampHw hw).Legal :=
  ⟨clamp_bounds (by decide) _, clamp_bounds (by decide) _, clamp_bounds (by decide) _, clamp_bounds (by decide) _,
    clamp_bounds (by decide) _, clamp_bounds (by decide) _, Nat.mul_mod_left _ _⟩

theorem inv_resetFor {hw : HwParams} (hlegal : hw.Legal) : Inv (State.resetFor hw) where
  hwLegal := hlegal
  masked r := by
    have hzero : (State.resetFor hw).cfg.get r = 0 := zeroCfg_get r
    rw [hzero]
    exact BitVec.zero_and
  absent r _ := zeroCfg_get r
  outFits := Nat.zero_le _
  spanFits := Nat.zero_le _
  codes := ⟨Nat.zero_le _, Nat.zero_le _⟩
  ckFlags := ⟨nofun, nofun⟩
  tableSize := List.length_replicate
  unarmed _ := ⟨rfl, rfl, rfl⟩
  failed := nofun
  config := nofun
  resting := nofun
  table := nofun

/-- Settles O52: the parameters of the machine at hand are clamped into the bounds. -/
theorem resetMeetsInvariant : Obligations.ResetMeetsInvariant := by
  have hlegal : Config.hw.Legal := by
    rw [Config.hw]
    exact clampHw_legal _
  exact ⟨inv_resetFor hlegal, fun hw hlegal => inv_resetFor hlegal⟩

theorem inv_withHost {s : State} (h : Inv s) (host : List HostEvent) : Inv { s with host := host } :=
  { h with resting := fun hm => { h.resting hm with } }

theorem inv_resetBlock {s : State} (h : Inv s) : Inv (resetBlock s) := by
  unfold resetBlock
  exact inv_withHost (inv_resetFor h.hwLegal) s.host

/-! ## Events, errors and register accesses -/

theorem inv_accepting {s : State} (h : Inv s) (rest : List HostEvent) : Inv (s.accepting rest) :=
  { h with resting := fun hm => { h.resting hm with } }

theorem opError_code_le (e : OpError) : e.code.toNat ≤ 6 := by cases e <;> decide

theorem cfgError_code_range (e : CfgError) : e.code.toNat ≤ 8 ∧ e.code ≠ 0 := by cases e <;> decide

theorem inv_raiseOpErr {s : State} (h : Inv s) (e : OpError) : Inv (raiseOpErr e s) :=
  { h with codes := ⟨h.codes.1, opError_code_le e⟩, resting := fun hm => { h.resting hm with } }

theorem inv_readReturns {s : State} (h : Inv s) (v : Word) : Inv (readReturns v s) :=
  { h with resting := fun hm => { h.resting hm with } }

theorem inv_ackIrq {s : State} (h : Inv s) (bits : BitVec 7) : Inv (ackIrq bits s) :=
  { h with resting := fun hm => { h.resting hm with } }

theorem inv_enableIrq {s : State} (h : Inv s) (bits : BitVec 7) : Inv { s with irqEnable := bits } :=
  { h with resting := fun hm => { h.resting hm with } }

/-- Outside a session the stored word is masked and the register exists; within one nothing is stored. -/
theorem inv_writeCl {s : State} (h : Inv s) {r : ClReg} (hpresent : r.present s.hw = true) (data : Word) :
    Inv (writeCl r data s) := by
  rcases writeCl_cases r data s with ⟨-, hw⟩ | ⟨hm, hw⟩ <;> rw [hw]
  · exact inv_raiseOpErr h .cfgLocked
  · refine { h with
      masked := fun r' => ?_
      absent := fun r' habsent => ?_
      config := fun hm' => absurd hm' hm
      resting := fun hm' => absurd hm' hm
      table := fun hm' => absurd hm' hm }
    · rw [ClRegs.get_set]
      split
      · subst r'
        rw [BitVec.and_assoc, BitVec.and_self]
      · exact h.masked r'
    · have hne : r' ≠ r := by
        rintro rfl
        exact absurd hpresent (by simp [habsent])
      exact (ClRegs.get_set_ne _ _ hne).trans (h.absent r' habsent)

theorem inv_writeXs {s : State} (h : Inv s) (r : ClReg) (data : Word) : Inv (writeXs r data s) := by
  rcases writeXs_cases r data s with ⟨hpresent, hw⟩ | ⟨-, hw⟩ <;> rw [hw]
  · exact inv_writeCl h hpresent data
  · exact h

/-! ## Sessions -/

theorem inv_raiseCfgErr {s : State} (h : Inv s) (hm : s.mode ≠ .armed) (e : CfgError) : Inv (raiseCfgErr e s) :=
  { h with
    codes := ⟨(cfgError_code_range e).1, h.codes.2⟩
    unarmed := fun _ => h.unarmed hm
    failed := fun _ => (cfgError_code_range e).2
    config := nofun
    resting := nofun
    table := nofun }

/-- Pend empty and no candidate is a resting state, because no header is empty. -/
theorem resting_of_pend_nil {s : State} (hconfig : ConfigFacts s.hw s.cfg) (hfsm : s.fsm = .seekingHeader)
    (hpend : s.pend = []) : Resting s where
  seeking _ := by
    refine ⟨by simp [hpend], (firstMatch_eq_none_iff _ _).2 fun p hmatch => ?_⟩
    have hpos := hmatch.pend_pos hconfig.hdr_pos
    simp [hpend] at hpos
  lengthPending h := by simp [hfsm] at h
  bodyPending h := by simp [hfsm] at h

theorem crcTableWords_length {c : ClRegs} {ws : List Word} (h : c.crcTableWords = some ws) : ws.length = 256 := by
  unfold ClRegs.crcTableWords at h
  split at h <;> cases h <;> simp

theorem inv_armSession {s : State} (h : Inv s) (hchecks : armError s.hw s.cfg = none) : Inv (armSession s) :=
  { h with
    outFits := Nat.zero_le _
    spanFits := Nat.zero_le _
    codes := ⟨Nat.zero_le _, h.codes.2⟩
    ckFlags := ⟨nofun, nofun⟩
    tableSize := by
      rw [armSession_crcTable]
      cases htable : s.cfg.crcTableWords with
      | none => exact h.tableSize
      | some ws => exact crcTableWords_length htable
    unarmed := fun hm => absurd rfl hm
    failed := nofun
    config := fun _ => ⟨hchecks, rfl⟩
    resting := fun _ => resting_of_pend_nil (.of_armError hchecks) rfl rfl
    table := fun _ ws hws => by
      rw [armSession_cfg] at hws
      simp [hws] }

theorem inv_execArm {ign : BitVec 28} {s t : State} (h : Inv s) (hexec : execArm ign s = .next t) : Inv t := by
  rcases execArm_cases hexec with ⟨-, rfl⟩ | ⟨hm, e, -, rfl⟩ | ⟨-, hchecks, rfl⟩
  · exact inv_raiseOpErr h .badMode
  · exact inv_raiseCfgErr h hm e
  · exact inv_armSession h hchecks

theorem inv_disarm {s : State} (h : Inv s) :
    Inv { s with mode := .idle, fsm := .seekingHeader, pend := [], span := [] } :=
  { h with
    spanFits := Nat.zero_le _
    unarmed := fun _ => ⟨rfl, rfl, rfl⟩
    failed := nofun
    config := nofun
    resting := nofun
    table := nofun }

/-! ## The checksum port and the output port -/

theorem inv_clearCk {s : State} (h : Inv s) : Inv (clearCk s) :=
  { h with
    spanFits := Nat.zero_le _
    ckFlags := ⟨nofun, nofun⟩
    unarmed := fun hm => ⟨(h.unarmed hm).1, (h.unarmed hm).2.1, rfl⟩
    resting := fun hm => { h.resting hm with } }

theorem inv_ckReported {s t : State} (h : Inv s) (hreported : CkReported s t) : Inv t := by
  obtain ⟨valid, ok, result, stored, hok, rfl⟩ := hreported
  exact { h with
    ckFlags := ⟨hok, by cases valid <;> simp⟩
    resting := fun hm => { h.resting hm with } }

theorem inv_ckPushByte {s : State} (h : Inv s) (b : Byte) : Inv (ckPushByte b s) := by
  rcases ckPushByte_cases b s with ⟨-, hpush⟩ | ⟨-, -, hpush⟩ | ⟨hm, hroom, hpush⟩ <;> rw [hpush]
  · exact inv_raiseOpErr h .pushNotArmed
  · exact { inv_raiseOpErr h .ckSpanFull with resting := fun hm => { h.resting hm with } }
  · refine { h with
      spanFits := ?_
      unarmed := fun hm' => absurd hm hm'
      resting := fun hm => { h.resting hm with } }
    have hfits := h.spanFits
    simp only [List.length_append, List.length_singleton]
    omega

theorem inv_ckPushBytes {s : State} (h : Inv s) (bytes : List Byte) :
    Inv (bytes.foldl (fun t b => ckPushByte b t) s) := by
  induction bytes generalizing s with
  | nil => exact h
  | cons b bytes ih => exact ih (inv_ckPushByte h b)

theorem inv_execOutPop {s t : State} (h : Inv s) (hexec : execOutPop s = .next t) : Inv t := by
  rcases execOutPop_cases hexec with ⟨-, rfl⟩ | ⟨v, rest, hout, rfl⟩
  · exact inv_readReturns (inv_raiseOpErr h _) _
  · refine { h with outFits := ?_, resting := fun hm => { h.resting hm with } }
    have hfits := h.outFits
    simp only [hout, List.length_cons] at hfits
    simp only [readReturns_out, readReturns_hw]
    omega

/-! ## The synchronizer -/

/-- The synchronizer changes only its own parts, of which the invariant speaks by `outFits` and `resting`. -/
theorem inv_of_syncFrame {s t : State} (h : Inv s) (hm : s.mode = .armed) (hframe : SyncFrame s t)
    (hout : t.out.length ≤ s.hw.outDepth) (hrest : Resting t) : Inv t := by
  unfold SyncFrame at hframe
  rw [hframe] at hrest ⊢
  exact { h with
    outFits := hout
    unarmed := fun hm' => absurd hm hm'
    resting := fun _ => hrest }

theorem configFacts {s : State} (h : Inv s) (hm : s.mode = .armed) : ConfigFacts s.hw s.cfg :=
  .of_armError (h.config hm).1

theorem inv_pushByte {s t : State} (h : Inv s) {b : Byte} (hpush : pushByte b s = .ok t) : Inv t := by
  by_cases hm : s.mode = .armed
  · obtain ⟨u, hu, -, hstep, hrest, -⟩ := pushByte_returns hm (configFacts h hm) (h.resting hm) b
    obtain rfl : u = t := by simpa [hu] using hpush
    exact inv_of_syncFrame h hm hstep.frame (by simpa [hstep.hw] using hstep.outFits h.outFits) hrest
  · rw [pushByte, if_neg hm] at hpush
    cases hpush
    exact inv_raiseOpErr h .pushNotArmed

theorem inv_pushBytes {s t : State} (h : Inv s) {bytes : List Byte} (hpush : pushBytes bytes s = .ok t) : Inv t := by
  induction bytes generalizing s with
  | nil =>
    cases hpush
    exact h
  | cons b bytes ih =>
    obtain ⟨u, hu, hrest⟩ := pushBytes_cons.1 hpush
    exact ih (inv_pushByte h hu) hrest

theorem inv_flush {s t : State} (h : Inv s) (hm : s.mode = .armed) (hflush : flush s = .ok t) : Inv t := by
  obtain ⟨u, hu, hfsm, hstep, -⟩ := flush_returns (configFacts h hm) (h.resting hm)
  obtain rfl : flushRemainder u = t := by simpa [hu] using hflush
  have hconfig : ConfigFacts (flushRemainder u).hw (flushRemainder u).cfg := by
    rw [hstep.hw, hstep.cfg]
    exact configFacts h hm
  exact inv_of_syncFrame h hm hstep.frame (by simpa [hstep.hw] using hstep.outFits h.outFits)
    (resting_of_pend_nil hconfig ((flushRemainder_fsm u).trans hfsm) (flushRemainder_pend u))

/-! ## Every step -/

theorem inv_of_whenArmed {s t : State} {run : State → Except Fault State} (h : Inv s)
    (hrun : s.mode = .armed → run s = .ok t → Inv t) (hexec : toOutcome (whenArmed s run) = .next t) : Inv t := by
  rcases whenArmed_cases (toOutcome_eq_next.1 hexec) with ⟨hm, hok⟩ | ⟨-, rfl⟩
  · exact hrun hm hok
  · exact inv_raiseOpErr h .badMode

theorem inv_sharedMeaning {m : State → Host.Outcome State Fault Refusal} (hmeaning : SharedMeaning m) {s t : State}
    (h : Inv s) (hexec : m s = .next t) : Inv t := by
  cases hmeaning with
  | arm ign => exact inv_execArm h hexec
  | ckCompute ign => exact inv_of_whenArmed h (fun _ hok => inv_ckReported h (ckComputeSpan_reported hok)) hexec
  | ckVerify ign => exact inv_of_whenArmed h (fun _ hok => inv_ckReported h (ckVerifySpan_reported hok)) hexec
  | flush ign => exact inv_of_whenArmed h (inv_flush h) hexec
  | push bytes => exact inv_pushBytes h (toOutcome_eq_next.1 hexec)
  | outPop => exact inv_execOutPop h hexec
  | ckInit ign =>
    cases hexec
    split
    · exact inv_clearCk h
    · exact inv_raiseOpErr h .badMode
  | nothing => cases hexec; exact h
  | reservedOpcode => cases hexec; exact inv_raiseOpErr h .reservedOpcode
  | read value hblind => cases hexec; exact inv_readReturns h (value s)
  | write r data => cases hexec; exact inv_writeXs h r data
  | enableIrq data => cases hexec; exact inv_enableIrq h (data.setWidth 7)
  | ackIrq bits => cases hexec; exact inv_ackIrq h bits
  | disarm ign => cases hexec; exact inv_disarm h
  | softReset ign => cases hexec; exact inv_resetBlock h
  | ckPush bytes => cases hexec; exact inv_ckPushBytes h bytes

/-- Settles O53, by the event the step takes and then by the instruction's shared operation. -/
theorem stepKeepsInvariant : Obligations.StepKeepsInvariant := by
  intro s t h hstep
  rcases step_cases hstep with rfl | ⟨rest, rfl⟩ | ⟨i, rest, hexec⟩
  · exact h
  · exact inv_resetBlock (inv_accepting h rest)
  · exact inv_sharedMeaning (exec_sharedMeaning i) (inv_accepting h rest) hexec

end Sys2Proof.Proofs
end

section
/-! PROOFS. Family 10_state.md: the build never changes, and the configuration not within a session (R43, 00_scope.md
R9). This holds of every state, so the synchronizer's frame is proved here without the invariant. -/

namespace Sys2Proof.Proofs

open Sys2Proof Sys2Proof.Machine

/-! ## The synchronizer's frame in any state -/

/-- The state a pass leads to, if it leads to one, is a synchronizer step away. -/
inductive PassSteps (s : State) : Pass → Prop where
  | rest {t : State} (h : SyncStep s t) : PassSteps s (.rest t)
  | again {t : State} (h : SyncStep s t) : PassSteps s (.again t)
  | stuck (f : Fault) : PassSteps s (.stuck f)

theorem passSeeking_steps (s : State) : PassSteps s (passSeeking s) := by
  unfold passSeeking
  split
  · exact .again ⟨rfl, by simp, id, by simp⟩
  · exact .rest (.windowGuard s)

theorem passLength_steps (s : State) : PassSteps s (passLength s) := by
  unfold passLength
  split
  · exact .rest (.refl s)
  · exact .again ⟨rfl, by simp, id, by simp⟩
  · exact .again ((SyncStep.emit _ s).trans (.resync _))

theorem passBody_steps (s : State) : PassSteps s (passBody s) := by
  unfold passBody
  split
  · exact .rest (.refl s)
  · split
    · exact .stuck _
    · split
      · exact .again (.emitFrame _ s)
      · exact .again ((SyncStep.emit _ s).trans (.resync _))

theorem pass_steps (s : State) : PassSteps s (Machine.pass s) := by
  unfold Machine.pass
  split
  · exact passSeeking_steps s
  · exact passLength_steps s
  · exact passBody_steps s

theorem runFuel_syncStep {n : Nat} {s t : State} (h : runFuel n s = .ok t) : SyncStep s t := by
  induction n generalizing s with
  | zero => cases h
  | succ n ih =>
    unfold runFuel at h
    have hpass := pass_steps s
    generalize Machine.pass s = p at hpass h
    cases hpass with
    | rest hstep =>
      cases h
      exact hstep
    | again hstep => exact hstep.trans (ih h)
    | stuck f => cases h

theorem flushLoop_syncStep {n : Nat} {s t : State} (h : flushLoop n s = .ok t) : SyncStep s t := by
  induction n generalizing s with
  | zero =>
    unfold flushLoop at h
    split at h <;> cases h
    exact .refl _
  | succ n ih =>
    unfold flushLoop at h
    split at h
    · cases h
      exact .refl _
    · split at h
      · exact (((SyncStep.emit _ _).trans (.resync _)).trans (runFuel_syncStep ‹_›)).trans (ih h)
      · cases h

theorem flushRemainder_syncStep (s : State) : SyncStep s (flushRemainder s) := by
  rcases flushRemainder_cases s with ⟨-, h⟩ | ⟨-, h⟩ <;> rw [h]
  · exact .refl s
  · exact .discardTo (p := []) (Nat.zero_le _) s.pend.length

theorem flush_syncStep {s t : State} (h : flush s = .ok t) : SyncStep s t := by
  unfold flush at h
  split at h <;> cases h
  exact (flushLoop_syncStep ‹_›).trans (flushRemainder_syncStep _)

/-! ## The lock -/

/-- The build and the configuration stay. -/
def SameSetup (s t : State) : Prop := t.hw = s.hw ∧ t.cfg = s.cfg

theorem SameSetup.trans {s t u : State} (h1 : SameSetup s t) (h2 : SameSetup t u) : SameSetup s u :=
  ⟨h2.1.trans h1.1, h2.2.trans h1.2⟩

theorem execArm_sameSetup {ign : BitVec 28} {s t : State} (h : execArm ign s = .next t) : SameSetup s t := by
  rcases execArm_cases h with ⟨-, rfl⟩ | ⟨-, e, -, rfl⟩ | ⟨-, -, rfl⟩ <;> exact ⟨rfl, rfl⟩

theorem execOutPop_sameSetup {s t : State} (h : execOutPop s = .next t) : SameSetup s t := by
  rcases execOutPop_cases h with ⟨-, rfl⟩ | ⟨v, rest, -, rfl⟩ <;> exact ⟨rfl, rfl⟩

theorem ckReported_sameSetup {s t : State} (h : CkReported s t) : SameSetup s t := by
  obtain ⟨valid, ok, result, stored, -, rfl⟩ := h
  exact ⟨rfl, rfl⟩

theorem ckPushByte_sameSetup (b : Byte) (s : State) : SameSetup s (ckPushByte b s) := by
  rcases ckPushByte_cases b s with ⟨-, h⟩ | ⟨-, -, h⟩ | ⟨-, -, h⟩ <;> rw [h] <;> exact ⟨rfl, rfl⟩

theorem ckPushBytes_sameSetup (bytes : List Byte) (s : State) :
    SameSetup s (bytes.foldl (fun t b => ckPushByte b t) s) := by
  induction bytes generalizing s with
  | nil => exact ⟨rfl, rfl⟩
  | cons b bytes ih => exact (ckPushByte_sameSetup b s).trans (ih _)

theorem pushByte_sameSetup {b : Byte} {s t : State} (h : pushByte b s = .ok t) : SameSetup s t := by
  unfold pushByte at h
  split at h
  · have hstep := runFuel_syncStep h
    exact ⟨hstep.hw, hstep.cfg⟩
  · cases h
    exact ⟨rfl, rfl⟩

theorem pushBytes_sameSetup {bytes : List Byte} {s t : State} (h : pushBytes bytes s = .ok t) : SameSetup s t := by
  induction bytes generalizing s with
  | nil =>
    cases h
    exact ⟨rfl, rfl⟩
  | cons b bytes ih =>
    obtain ⟨u, hu, hrest⟩ := pushBytes_cons.1 h
    exact (pushByte_sameSetup hu).trans (ih hrest)

theorem flush_sameSetup {s t : State} (h : flush s = .ok t) : SameSetup s t :=
  ⟨(flush_syncStep h).hw, (flush_syncStep h).cfg⟩

theorem sameSetup_of_whenArmed {s t : State} {run : State → Except Fault State}
    (hrun : run s = .ok t → SameSetup s t) (h : toOutcome (whenArmed s run) = .next t) : SameSetup s t := by
  rcases whenArmed_cases (toOutcome_eq_next.1 h) with ⟨-, hok⟩ | ⟨-, rfl⟩
  · exact hrun hok
  · exact ⟨rfl, rfl⟩

/-- The build stays, and so does the configuration if a session is active before and after (10_state.md R43). -/
def KeepsLocked (s t : State) : Prop := t.hw = s.hw ∧ (s.mode = .armed → t.mode = .armed → t.cfg = s.cfg)

theorem SameSetup.keepsLocked {s t : State} (h : SameSetup s t) : KeepsLocked s t := ⟨h.1, fun _ _ => h.2⟩

theorem keepsLocked_writeXs (r : ClReg) (data : Word) (s : State) : KeepsLocked s (writeXs r data s) := by
  rcases writeXs_cases r data s with ⟨-, hxs⟩ | ⟨-, hxs⟩ <;> rw [hxs]
  · rcases writeCl_cases r data s with ⟨-, hcl⟩ | ⟨hm, hcl⟩ <;> rw [hcl]
    · exact ⟨rfl, fun _ _ => rfl⟩
    · exact ⟨rfl, fun harmed => absurd harmed hm⟩
  · exact ⟨rfl, fun _ _ => rfl⟩

theorem keepsLocked_resetBlock (s : State) : KeepsLocked s (resetBlock s) := ⟨rfl, nofun⟩

/-- Only a register write outside a session and SOFT_RESET, which ends one, change the configuration. -/
theorem keepsLocked_sharedMeaning {m : State → Host.Outcome State Fault Refusal} (hmeaning : SharedMeaning m)
    {s t : State} (h : m s = .next t) : KeepsLocked s t := by
  cases hmeaning with
  | write r data => cases h; exact keepsLocked_writeXs r data s
  | softReset ign => cases h; exact keepsLocked_resetBlock s
  | arm ign => exact (execArm_sameSetup h).keepsLocked
  | ckCompute ign =>
    exact (sameSetup_of_whenArmed (fun hok => ckReported_sameSetup (ckComputeSpan_reported hok)) h).keepsLocked
  | ckVerify ign =>
    exact (sameSetup_of_whenArmed (fun hok => ckReported_sameSetup (ckVerifySpan_reported hok)) h).keepsLocked
  | flush ign => exact (sameSetup_of_whenArmed flush_sameSetup h).keepsLocked
  | push bytes => exact (pushBytes_sameSetup (toOutcome_eq_next.1 h)).keepsLocked
  | ckPush bytes => cases h; exact (ckPushBytes_sameSetup bytes s).keepsLocked
  | outPop => exact (execOutPop_sameSetup h).keepsLocked
  | ckInit ign => cases h; split <;> exact ⟨rfl, fun _ _ => rfl⟩
  | nothing | reservedOpcode | read | enableIrq | ackIrq | disarm => cases h; exact ⟨rfl, fun _ _ => rfl⟩

/-- Settles O55, by the event the step takes and then by the instruction's shared operation. -/
theorem sessionConfigurationIsLocked : Obligations.SessionConfigurationIsLocked := by
  intro s t h
  rcases step_cases h with rfl | ⟨rest, rfl⟩ | ⟨i, rest, hexec⟩
  · exact ⟨rfl, fun _ _ => rfl⟩
  · exact keepsLocked_resetBlock (s.accepting rest)
  · have h : KeepsLocked (s.accepting rest) t := keepsLocked_sharedMeaning (exec_sharedMeaning i) hexec
    exact h

end Sys2Proof.Proofs
end

section
/-! PROOFS. Family 10_state.md: no result depends on CrcTable (R54), or on CandLen outside BODY_PENDING (R50). Two
states that differ in these alone are twins, and every shared operation takes twins to twins. -/

namespace Sys2Proof.Proofs

open Sys2Proof Sys2Proof.Machine

/-! ## Operations that commute with a change of the hidden contents -/

section
variable (len : Nat) (table : List Word) (s : State)

theorem emit_withHidden (ws : List Word) : emit ws (withHidden len table s) = withHidden len table (emit ws s) := by
  simp only [emit, apply_ite (withHidden len table)]
  rfl

theorem emitFrame_withHidden (n : Nat) :
    emitFrame n (withHidden len table s) = withHidden len table (emitFrame n s) := by
  simp only [emitFrame, emit_withHidden]
  rfl

theorem resync_withHidden : resync (withHidden len table s) = withHidden len table (resync s) := rfl

theorem windowGuard_withHidden : windowGuard (withHidden len table s) = withHidden len table (windowGuard s) := by
  simp only [windowGuard, apply_ite (withHidden len table)]
  rfl

theorem flushRemainder_withHidden :
    flushRemainder (withHidden len table s) = withHidden len table (flushRemainder s) := by
  simp only [flushRemainder, apply_ite (withHidden len table)]
  rfl

theorem writeCl_withHidden (r : ClReg) (data : Word) :
    writeCl r data (withHidden len table s) = withHidden len table (writeCl r data s) := by
  simp only [writeCl, apply_ite (withHidden len table)]
  rfl

theorem writeXs_withHidden (r : ClReg) (data : Word) :
    writeXs r data (withHidden len table s) = withHidden len table (writeXs r data s) := by
  simp only [writeXs, writeCl_withHidden, apply_ite (withHidden len table)]

theorem ckPushByte_withHidden (b : Byte) :
    ckPushByte b (withHidden len table s) = withHidden len table (ckPushByte b s) := by
  simp only [ckPushByte, apply_ite (withHidden len table)]
  rfl

theorem ckComputeSpan_withHidden :
    ckComputeSpan (withHidden len table s) = (ckComputeSpan s).map (withHidden len table) := by
  unfold ckComputeSpan
  split_ifs
  · rfl
  · cases s.cfg.valueSpan s.span <;> rfl

theorem ckVerifySpan_withHidden :
    ckVerifySpan (withHidden len table s) = (ckVerifySpan s).map (withHidden len table) := by
  unfold ckVerifySpan
  split_ifs
  · rfl
  · cases s.cfg.verify s.span <;> rfl

end

/-! ## Twins -/

/-- A state and the same with other hidden contents. A pending candidate's length is no hidden content; `sameLen` and
`sameTable` ask that CandLen in every state, or CrcTable, is the same too. -/
def Twin (sameLen sameTable : Prop) (s s' : State) : Prop :=
  ∃ len table, s' = withHidden len table s ∧ (sameLen ∨ s.fsm = .bodyPending → len = s.candLen) ∧
    (sameTable → table = s.crcTable)

/-- If the first computation ends, the second ends in a twin of its end. -/
def TwinOk (sameLen sameTable : Prop) (x x' : Except Fault State) : Prop :=
  ∀ t, x = .ok t → ∃ t', x' = .ok t' ∧ Twin sameLen sameTable t t'

/-- Passes of the same kind, to twins. -/
inductive TwinPass (sameLen sameTable : Prop) : Pass → Pass → Prop where
  | rest {t t' : State} (h : Twin sameLen sameTable t t') : TwinPass sameLen sameTable (.rest t) (.rest t')
  | again {t t' : State} (h : Twin sameLen sameTable t t') : TwinPass sameLen sameTable (.again t) (.again t')
  | stuck (f : Fault) : TwinPass sameLen sameTable (.stuck f) (.stuck f)

section
variable {sameLen sameTable : Prop} {s s' : State}

theorem Twin.refl (s : State) : Twin sameLen sameTable s s :=
  ⟨s.candLen, s.crcTable, rfl, fun _ => rfl, fun _ => rfl⟩

/-- An operation that commutes with every change of the hidden contents and makes no candidate pending. That it keeps
the hidden contents follows: it commutes with the change that changes nothing. -/
theorem Twin.mapOk (h : Twin sameLen sameTable s s') {f : State → Except Fault State}
    (hcomm : ∀ len table s, f (withHidden len table s) = (f s).map (withHidden len table))
    (hheld : ∀ t, f s = .ok t → t.fsm = .bodyPending → s.fsm = .bodyPending) :
    TwinOk sameLen sameTable (f s) (f s') := by
  intro t ht
  have hcommAt : ∀ len table, f (withHidden len table s) = .ok (withHidden len table t) := fun len table => by
    rw [hcomm, ht]
    rfl
  have hkept : t = withHidden s.candLen s.crcTable t := Except.ok.inj (ht.symm.trans (hcommAt s.candLen s.crcTable))
  obtain ⟨len, table, rfl, hlen, htable⟩ := h
  refine ⟨_, hcommAt len table, len, table, rfl, fun hsame => ?_, fun hsame => ?_⟩
  · rw [hkept]
    exact hlen (hsame.imp_right (hheld t ht))
  · rw [hkept]
    exact htable hsame

theorem Twin.map (h : Twin sameLen sameTable s s') {f : State → State}
    (hcomm : ∀ len table s, f (withHidden len table s) = withHidden len table (f s))
    (hheld : (f s).fsm = .bodyPending → s.fsm = .bodyPending) : Twin sameLen sameTable (f s) (f s') := by
  have hok := h.mapOk (f := fun s => .ok (f s)) (fun len table s => congrArg Except.ok (hcomm len table s))
    (by rintro t ⟨⟩; exact hheld)
  obtain ⟨t', ⟨⟩, htwin⟩ := hok (f s) rfl
  exact htwin

theorem Twin.mode (h : Twin sameLen sameTable s s') : s'.mode = s.mode := by
  obtain ⟨len, table, rfl, -, -⟩ := h
  rfl

theorem Twin.fsm (h : Twin sameLen sameTable s s') : s'.fsm = s.fsm := by
  obtain ⟨len, table, rfl, -, -⟩ := h
  rfl

theorem Twin.pend (h : Twin sameLen sameTable s s') : s'.pend = s.pend := by
  obtain ⟨len, table, rfl, -, -⟩ := h
  rfl

theorem Twin.ok (h : Twin sameLen sameTable s s') : TwinOk sameLen sameTable (.ok s) (.ok s') := by
  rintro t ⟨⟩
  exact ⟨s', rfl, h⟩

theorem twinOk_error (f : Fault) (x : Except Fault State) : TwinOk sameLen sameTable (.error f) x := by
  intro t h
  cases h

theorem Twin.raiseOpErr (h : Twin sameLen sameTable s s') (e : OpError) :
    Twin sameLen sameTable (raiseOpErr e s) (raiseOpErr e s') :=
  h.map (fun _ _ _ => rfl) id

theorem Twin.emit (h : Twin sameLen sameTable s s') (ws : List Word) :
    Twin sameLen sameTable (Machine.emit ws s) (Machine.emit ws s') :=
  h.map (emit_withHidden · · · ws) fun hf => by simpa using hf

theorem Twin.resync (h : Twin sameLen sameTable s s') : Twin sameLen sameTable (resync s) (resync s') :=
  h.map resync_withHidden nofun

theorem Twin.emitFrame (h : Twin sameLen sameTable s s') (n : Nat) :
    Twin sameLen sameTable (emitFrame n s) (emitFrame n s') :=
  h.map (emitFrame_withHidden · · · n) nofun

/-! ## The synchronizer -/

theorem twin_passSeeking (h : Twin sameLen sameTable s s') :
    TwinPass sameLen sameTable (passSeeking s) (passSeeking s') := by
  have hwindow := h.map windowGuard_withHidden fun hf => by simpa using hf
  obtain ⟨len, table, rfl, hlen, htable⟩ := h
  simp only [passSeeking]
  cases firstMatch s.cfg.hdr s.pend with
  | some p => exact .again ⟨len, table, rfl, fun hkeep => hlen (hkeep.imp_right nofun), htable⟩
  | none => exact .rest hwindow

/-- A resolved length overwrites CandLen in both. -/
theorem twin_passLength (h : Twin sameLen sameTable s s') :
    TwinPass sameLen sameTable (passLength s) (passLength s') := by
  have hinvalid := fun r raw => (h.emit (lenInvalidRecord r raw)).resync
  obtain ⟨len, table, rfl, hlen, htable⟩ := h
  simp only [passLength]
  cases s.cfg.resolve s.pend with
  | need => exact .rest ⟨len, table, rfl, hlen, htable⟩
  | ok resolved => exact .again ⟨resolved, table, rfl, fun _ => rfl, htable⟩
  | invalid r raw => exact .again (hinvalid r raw)

/-- The one place where CandLen is read: there a candidate is pending, so the twins agree on it. -/
theorem twin_passBody (h : Twin sameLen sameTable s s') (hfsm : s.fsm = .bodyPending) :
    TwinPass sameLen sameTable (passBody s) (passBody s') := by
  have hframe := h.emitFrame s.candLen
  have hmismatch := fun v : Verdict => (h.emit (mismatchRecord s.candLen v.computed v.stored)).resync
  obtain ⟨len, table, rfl, hlen, htable⟩ := h
  obtain rfl : len = s.candLen := hlen (.inr hfsm)
  by_cases hshort : s.pend.length < s.candLen
  · simp only [passBody, if_pos hshort]
    exact .rest ⟨_, table, rfl, hlen, htable⟩
  · simp only [passBody, if_neg hshort]
    cases s.cfg.verify (s.pend.take s.candLen) with
    | none => exact .stuck _
    | some v =>
      cases hok : v.ok with
      | true => simpa [hok] using TwinPass.again hframe
      | false => simpa [hok] using TwinPass.again (hmismatch v)

theorem twin_pass (h : Twin sameLen sameTable s s') :
    TwinPass sameLen sameTable (Machine.pass s) (Machine.pass s') := by
  unfold Machine.pass
  rw [h.fsm]
  cases hfsm : s.fsm with
  | seekingHeader => exact twin_passSeeking h
  | lengthPending => exact twin_passLength h
  | bodyPending => exact twin_passBody h hfsm

theorem twin_runFuel (n : Nat) (h : Twin sameLen sameTable s s') :
    TwinOk sameLen sameTable (runFuel n s) (runFuel n s') := by
  induction n generalizing s s' with
  | zero => exact twinOk_error _ _
  | succ n ih =>
    unfold runFuel
    have hpass := twin_pass h
    generalize Machine.pass s = p, Machine.pass s' = p' at hpass ⊢
    cases hpass with
    | rest hrest => exact hrest.ok
    | again hagain => exact ih hagain
    | stuck f => exact twinOk_error f _

theorem twin_run (h : Twin sameLen sameTable s s') : TwinOk sameLen sameTable (run s) (run s') := by
  unfold run runBound
  rw [h.pend]
  exact twin_runFuel _ h

theorem twin_pushByte (h : Twin sameLen sameTable s s') (b : Byte) :
    TwinOk sameLen sameTable (pushByte b s) (pushByte b s') := by
  unfold pushByte
  by_cases hm : s.mode = .armed
  · rw [if_pos hm, if_pos (h.mode.trans hm)]
    exact twin_run (h.map (f := fun s => { s with pend := s.pend ++ [b] }) (fun _ _ _ => rfl) id)
  · rw [if_neg hm, if_neg (h.mode ▸ hm)]
    exact (h.raiseOpErr .pushNotArmed).ok

theorem twin_pushBytes (bytes : List Byte) (h : Twin sameLen sameTable s s') :
    TwinOk sameLen sameTable (pushBytes bytes s) (pushBytes bytes s') := by
  induction bytes generalizing s s' with
  | nil => exact h.ok
  | cons b bytes ih =>
    intro t hpush
    obtain ⟨u, hu, hrest⟩ := pushBytes_cons.1 hpush
    obtain ⟨u', hu', htwin⟩ := twin_pushByte h b u hu
    obtain ⟨t', ht', htwin'⟩ := ih htwin t hrest
    exact ⟨t', pushBytes_cons.2 ⟨u', hu', ht'⟩, htwin'⟩

theorem twin_flushLoop (n : Nat) (h : Twin sameLen sameTable s s') :
    TwinOk sameLen sameTable (flushLoop n s) (flushLoop n s') := by
  induction n generalizing s s' with
  | zero =>
    unfold flushLoop
    by_cases hf : s.fsm = .seekingHeader
    · rw [if_pos hf, if_pos (h.fsm.trans hf)]
      exact h.ok
    · rw [if_neg hf]
      exact twinOk_error _ _
  | succ n ih =>
    unfold flushLoop
    by_cases hf : s.fsm = .seekingHeader
    · rw [if_pos hf, if_pos (h.fsm.trans hf)]
      exact h.ok
    · rw [if_neg hf, if_neg (h.fsm ▸ hf), h.pend]
      intro t hflush
      split at hflush
      · rename_i u hu
        obtain ⟨u', hu', htwin⟩ := twin_run (h.emit _).resync u hu
        rw [hu']
        exact ih htwin t hflush
      · cases hflush

theorem twin_flushRemainder (h : Twin sameLen sameTable s s') :
    Twin sameLen sameTable (flushRemainder s) (flushRemainder s') :=
  h.map flushRemainder_withHidden fun hf => flushRemainder_fsm s ▸ hf

theorem twin_flush (h : Twin sameLen sameTable s s') : TwinOk sameLen sameTable (flush s) (flush s') := by
  intro t hflush
  unfold flush at hflush ⊢
  rw [h.pend]
  split at hflush <;> cases hflush
  rename_i u hu
  obtain ⟨u', hu', htwin⟩ := twin_flushLoop _ h u hu
  rw [hu']
  exact ⟨_, rfl, twin_flushRemainder htwin⟩

/-! ## Instructions -/

/-- If the first outcome is a next state, the second is a twin of it. -/
def TwinNext (sameLen sameTable : Prop) (o o' : Host.Outcome State Fault Refusal) : Prop :=
  ∀ t, o = .next t → ∃ t', o' = .next t' ∧ Twin sameLen sameTable t t'

theorem Twin.next (h : Twin sameLen sameTable s s') : TwinNext sameLen sameTable (.next s) (.next s') := by
  rintro t ⟨⟩
  exact ⟨s', rfl, h⟩

theorem TwinOk.toOutcome {x x' : Except Fault State} (h : TwinOk sameLen sameTable x x') :
    TwinNext sameLen sameTable (toOutcome x) (toOutcome x') := by
  intro t hx
  obtain ⟨t', hx', htwin⟩ := h t (toOutcome_eq_next.1 hx)
  exact ⟨t', toOutcome_eq_next.2 hx', htwin⟩

theorem twin_whenArmed (h : Twin sameLen sameTable s s') {run : State → Except Fault State}
    (hrun : TwinOk sameLen sameTable (run s) (run s')) :
    TwinNext sameLen sameTable (toOutcome (whenArmed s run)) (toOutcome (whenArmed s' run)) := by
  unfold whenArmed
  by_cases hm : s.mode = .armed
  · rw [if_pos hm, if_pos (h.mode.trans hm)]
    exact hrun.toOutcome
  · rw [if_neg hm, if_neg (h.mode ▸ hm)]
    exact (h.raiseOpErr .badMode).ok.toOutcome

/-- A successful ARM writes CrcTable from the configuration, or keeps it. -/
theorem twin_execArm (h : Twin sameLen sameTable s s') (ign : BitVec 28) :
    TwinNext sameLen sameTable (execArm ign s) (execArm ign s') := by
  have hopErr := h.raiseOpErr .badMode
  have hcfgErr := fun e => h.map (f := raiseCfgErr e) (fun _ _ _ => rfl) id
  obtain ⟨len, table, rfl, hlen, htable⟩ := h
  unfold execArm
  split_ifs
  · exact hopErr.next
  · cases armError s.hw s.cfg with
    | some e => exact (hcfgErr e).next
    | none =>
      refine Twin.next ⟨len, s.cfg.crcTableWords.getD table, rfl, fun hkeep => hlen (hkeep.imp_right nofun), ?_⟩
      intro hkeep
      rw [htable hkeep]
      rfl

theorem twin_execOutPop (h : Twin sameLen sameTable s s') :
    TwinNext sameLen sameTable (execOutPop s) (execOutPop s') := by
  have hempty := h.map (f := fun s => readReturns 0 (raiseOpErr .outEmpty s)) (fun _ _ _ => rfl) id
  have hpop := fun v rest => h.map (f := fun s => readReturns v { s with out := rest }) (fun _ _ _ => rfl) id
  obtain ⟨len, table, rfl, -, -⟩ := h
  unfold execOutPop
  cases s.out with
  | nil => exact hempty.next
  | cons v rest => exact (hpop v rest).next

theorem twin_ckPushBytes (bytes : List Byte) (h : Twin sameLen sameTable s s') :
    Twin sameLen sameTable (bytes.foldl (fun t b => ckPushByte b t) s)
      (bytes.foldl (fun t b => ckPushByte b t) s') := by
  induction bytes generalizing s s' with
  | nil => exact h
  | cons b bytes ih =>
    exact ih (h.map (ckPushByte_withHidden · · · b) fun hf => ckPushByte_fsm b s ▸ hf)

theorem twin_sharedMeaning {m : State → Host.Outcome State Fault Refusal} (hmeaning : SharedMeaning m)
    (h : Twin sameLen sameTable s s') : TwinNext sameLen sameTable (m s) (m s') := by
  cases hmeaning with
  | nothing => exact h.next
  | reservedOpcode => exact (h.raiseOpErr .reservedOpcode).next
  | read value hblind =>
    exact Twin.next (h.map (f := fun s => readReturns (value s) s)
      (fun len table s => by rw [hblind]; rfl) id)
  | write r data => exact Twin.next (h.map (writeXs_withHidden · · · r data) fun hf => writeXs_fsm r data s ▸ hf)
  | enableIrq data =>
    exact Twin.next (h.map (f := fun s => { s with irqEnable := data.setWidth 7 }) (fun _ _ _ => rfl) id)
  | ackIrq bits => exact Twin.next (h.map (f := Machine.ackIrq bits) (fun _ _ _ => rfl) id)
  | arm ign => exact twin_execArm h ign
  | disarm ign =>
    exact Twin.next (h.map (f := fun s => { s with mode := .idle, fsm := .seekingHeader, pend := [], span := [] })
      (fun _ _ _ => rfl) nofun)
  | softReset ign =>
    obtain ⟨len, table, rfl, -, -⟩ := h
    exact (Twin.refl (resetBlock s)).next
  | ckInit ign =>
    refine Twin.next (h.map (f := fun s => if s.mode = .armed then clearCk s else raiseOpErr .badMode s) ?_ ?_)
    · intro len table s
      rw [apply_ite (withHidden len table)]
      rfl
    · split <;> exact id
  | ckCompute ign =>
    exact twin_whenArmed h (h.mapOk ckComputeSpan_withHidden fun t ht hf =>
      ckReported_fsm (ckComputeSpan_reported ht) ▸ hf)
  | ckVerify ign =>
    exact twin_whenArmed h (h.mapOk ckVerifySpan_withHidden fun t ht hf =>
      ckReported_fsm (ckVerifySpan_reported ht) ▸ hf)
  | flush ign => exact twin_whenArmed h (twin_flush h)
  | push bytes => exact (twin_pushBytes bytes h).toOutcome
  | ckPush bytes => exact (twin_ckPushBytes bytes h).next
  | outPop => exact twin_execOutPop h

end

/-- Settles O60: with another CrcTable, or another CandLen while no candidate is pending, the state has a twin. -/
theorem hiddenStateUnobservable : Obligations.HiddenStateUnobservable := by
  intro i s t len table hexec
  have htwins : ∀ {sameLen sameTable : Prop} {s'}, Twin sameLen sameTable s s' →
      ∃ t', exec i s' = .next t' ∧ Twin sameLen sameTable t t' :=
    fun h => twin_sharedMeaning (exec_sharedMeaning i) h t hexec
  constructor
  · have htwin : Twin True False s { s with crcTable := table } := ⟨s.candLen, table, rfl, fun _ => rfl, nofun⟩
    obtain ⟨t', ht', len', table', rfl, hlen, -⟩ := htwins htwin
    obtain rfl : len' = t.candLen := hlen (.inl trivial)
    exact ⟨_, ht', rfl⟩
  · intro hfsm
    have htwin : Twin False True s { s with candLen := len } :=
      ⟨len, s.crcTable, rfl, fun h => absurd (h.resolve_left id) hfsm, fun _ => rfl⟩
    obtain ⟨t', ht', len', table', rfl, hlen, htable⟩ := htwins htwin
    obtain rfl : table' = t.crcTable := htable trivial
    exact ⟨_, ht', rfl, fun hf => hlen (.inr hf)⟩

end Sys2Proof.Proofs
end

section
/-! PROOFS. Family 30_encoding.md: decoding and encoding are inverse to each other (R80-R82, R94). -/

namespace Sys2Proof.Proofs

open Sys2Proof Sys2Proof.Machine

/-! ## The format CMD -/

@[simp] theorem cmdWord_opcode (opcode : BitVec 4) (ign : BitVec 28) :
    (cmdWord opcode ign).extractLsb' 0 4 = opcode :=
  BitVec.extractLsb'_append_eq_right

@[simp] theorem cmdWord_ignored (opcode : BitVec 4) (ign : BitVec 28) :
    (cmdWord opcode ign).extractLsb' 4 28 = ign :=
  BitVec.extractLsb'_append_eq_left

theorem cmdWord_fields (data : Word) : cmdWord (data.extractLsb' 0 4) (data.extractLsb' 4 28) = data :=
  (BitVec.extractLsb'_append_extractLsb'_eq_extractLsb' (x := data) (show 4 = 0 + 4 from rfl)).trans
    BitVec.extractLsb'_eq_self

/-- OPCODE has sixteen values and a command for each (30_encoding.md R82). -/
theorem decodeCmd_cmdWord (opcode : BitVec 4) (ign : BitVec 28) :
    (decodeCmd (cmdWord opcode ign)).wellFormed = true ∧
    encode (decodeCmd (cmdWord opcode ign)) = .cmd (cmdWord opcode ign) := by
  simp only [decodeCmd, cmdWord_opcode, cmdWord_ignored]
  obtain ⟨n, hn⟩ := opcode
  interval_cases n <;> exact ⟨rfl, rfl⟩

/-- Every word is its OPCODE and its ignored field. -/
theorem encode_decodeCmd (data : Word) :
    (decodeCmd data).wellFormed = true ∧ encode (decodeCmd data) = .cmd data := by
  rw [← cmdWord_fields data]
  exact decodeCmd_cmdWord _ _

/-! ## The format BUS -/

theorem aligned_iff (op : BusOp) : op.aligned = true ↔ op.offset.extractLsb' 0 2 = 0#2 := beq_iff_eq

theorem readOffsets_eq_keys : readOffsets = readRows.map Prod.fst := rfl

theorem writeOffsets_eq_keys : writeOffsets = writeRows.map Prod.fst := rfl

theorem lookup_eq_none_iff_not_mem_keys {α : Type} (rows : List (BitVec 12 × α)) (off : BitVec 12) :
    rows.lookup off = none ↔ off ∉ rows.map Prod.fst := by
  simp only [List.lookup_eq_none_iff, List.mem_map, not_exists, not_and, bne_iff_ne, ne_comm (a := off), ne_eq]

theorem mem_of_lookup_eq_some {α : Type} {rows : List (BitVec 12 × α)} {off : BitVec 12} {row : α}
    (h : rows.lookup off = some row) : (off, row) ∈ rows := by
  obtain ⟨before, after, rfl, -⟩ := List.lookup_eq_some_iff.1 h
  simp

theorem unmatched_read_iff (off : BitVec 12) : (BusOp.read off).unmatched = true ↔ readRows.lookup off = none := by
  rw [lookup_eq_none_iff_not_mem_keys, ← readOffsets_eq_keys]
  simp [BusOp.unmatched]

theorem unmatched_write_iff (off : BitVec 12) (data : Word) :
    (BusOp.write off data).unmatched = true ↔ writeRows.lookup off = none := by
  rw [lookup_eq_none_iff_not_mem_keys, ← writeOffsets_eq_keys]
  simp [BusOp.unmatched]

theorem decodeBus_of_unmatched {op : BusOp} (haligned : op.aligned = true) (hunmatched : op.unmatched = true) :
    decodeBus op = .ok (.reservedAccess op) := by
  cases op with
  | read off => simp [decodeBus, haligned, (unmatched_read_iff off).1 hunmatched]
  | write off data => simp [decodeBus, haligned, (unmatched_write_iff off data).1 hunmatched]

theorem decodeBus_of_readRow {off : BitVec 12} {i : Instr} (haligned : off.extractLsb' 0 2 = 0#2)
    (hrow : readRows.lookup off = some i) : decodeBus (.read off) = .ok i := by
  simp [decodeBus, aligned_iff, BusOp.offset, haligned, hrow]

theorem decodeBus_of_writeRow {off : BitVec 12} {data : Word} {row : Word → Instr}
    (haligned : off.extractLsb' 0 2 = 0#2) (hrow : writeRows.lookup off = some row) :
    decodeBus (.write off data) = .ok (row data) := by
  simp [decodeBus, aligned_iff, BusOp.offset, haligned, hrow]

theorem encode_readRow : ∀ p ∈ readRows, p.2.wellFormed = true ∧ encode p.2 = .bus (.read p.1) := by
  decide

theorem encode_writeRow (data : Word) :
    ∀ p ∈ writeRows, (p.2 data).wellFormed = true ∧ encode (p.2 data) = .bus (.write p.1 data) := by
  intro p hp
  unfold writeRows at hp
  fin_cases hp <;> exact ⟨rfl, rfl⟩

/-- What the decoder answers for an aligned operation encodes as that operation: it is the row the tables have for it,
or a RESERVED_ACCESS (30_encoding.md R94). -/
theorem decodeBus_encodes {op : BusOp} (haligned : op.aligned = true) :
    ∃ i, decodeBus op = .ok i ∧ i.wellFormed = true ∧ encode i = .bus op := by
  by_cases hunmatched : op.unmatched = true
  · exact ⟨.reservedAccess op, decodeBus_of_unmatched haligned hunmatched,
      by simp [Instr.wellFormed, haligned, hunmatched], rfl⟩
  · have hbits := (aligned_iff op).1 haligned
    cases op with
    | read off =>
      obtain ⟨i, hrow⟩ := Option.ne_none_iff_exists'.1 (mt (unmatched_read_iff off).2 hunmatched)
      exact ⟨i, decodeBus_of_readRow hbits hrow, encode_readRow _ (mem_of_lookup_eq_some hrow)⟩
    | write off data =>
      obtain ⟨row, hrow⟩ := Option.ne_none_iff_exists'.1 (mt (unmatched_write_iff off data).2 hunmatched)
      exact ⟨row data, decodeBus_of_writeRow hbits hrow, encode_writeRow data _ (mem_of_lookup_eq_some hrow)⟩

/-! ## Both formats -/

/-- Settles O1: a command's word is split into its two fields, a RESERVED_ACCESS matches no row, and every other
instruction is the row at its own offset. -/
theorem decodeEncodeRoundTrip : Obligations.DecodeEncodeRoundTrip := by
  intro i hwf
  cases i with
  | nop ign | arm ign | disarm ign | flush ign | ckInit ign | ckCompute ign | ckVerify ign | reserved7 ign
  | reserved8 ign | reserved9 ign | reservedA ign | reservedB ign | reservedC ign | reservedD ign | reservedE ign
  | softReset ign =>
    simp only [encode, decode, decodeCmd, cmdWord_opcode, cmdWord_ignored]
    rfl
  | reservedAccess op =>
    obtain ⟨haligned, hunmatched⟩ : op.aligned = true ∧ op.unmatched = true := by
      simpa [Instr.wellFormed] using hwf
    exact decodeBus_of_unmatched haligned hunmatched
  | wrIrqEnable data | wrFrameCfg data | wrFixedLen data | wrLenField data | wrMaxLen data | wrSyncWindow data
  | wrHdrBytes0 data | wrHdrBytes1 data | wrCkCfg data | wrCkRange data | wrCkStoreAt data | wrCrcPoly data
  | wrCrcInit data | wrCrcXorout data | wrXsBounds0 data | wrXsStep0 data | wrXsRela0 data | wrXsRelb0 data
  | wrXsBounds1 data | wrXsStep1 data | wrXsRela1 data | wrXsRelb1 data | wrXsBounds2 data | wrXsStep2 data
  | wrXsRela2 data | wrXsRelb2 data | wrXsBounds3 data | wrXsStep3 data | wrXsRela3 data | wrXsRelb3 data
  | cmdWrite data | data8 data | data32 data | ckData8 data | ckData32 data | irqW1c data =>
    exact decodeBus_of_writeRow rfl rfl
  | _ => exact decodeBus_of_readRow rfl rfl

/-- The object is one the block decodes to a well-formed instruction that it encodes. -/
theorem decode_encodes {e : Encoded} (haligned : ∀ op, e = .bus op → op.offset.extractLsb' 0 2 = 0#2) :
    ∃ i, decode e = .ok i ∧ i.wellFormed = true ∧ encode i = e := by
  cases e with
  | cmd data => exact ⟨decodeCmd data, rfl, encode_decodeCmd data⟩
  | bus op => exact decodeBus_encodes ((aligned_iff op).2 (haligned op rfl))

/-- Settles O2: two instructions with the same encoding are what the decoder answers for it (O1), hence the same. -/
theorem everyEncodedObjectIsOneInstruction : Obligations.EveryEncodedObjectIsOneInstruction := by
  intro e haligned
  obtain ⟨i, hdecode, hwf, hencode⟩ := decode_encodes haligned
  refine ⟨i, hdecode, hwf, hencode, fun j hj hej => ?_⟩
  have hdecodeJ : decode e = .ok j := hej ▸ decodeEncodeRoundTrip j hj
  exact Except.ok.inj (hdecodeJ.symm.trans hdecode)

/-! ## Words of the opcode table -/

theorem decodeTableWord_of_encode {nbits w : Nat} {i : Instr} (hwf : i.wellFormed = true)
    (hword : tableEncoded nbits w = some (encode i)) : decodeTableWord nbits w = some i := by
  simp only [decodeTableWord, hword, decodeEncodeRoundTrip i hwf]

/-- Settles O3: but for the misaligned offset, each word is the encoding of its row (O1). -/
theorem tableWordsDecode : Obligations.TableWordsDecode :=
  ⟨decodeTableWord_of_encode rfl rfl, decodeTableWord_of_encode rfl rfl, decodeTableWord_of_encode rfl rfl,
    decodeTableWord_of_encode rfl rfl, decodeEncodeRoundTrip (.nop 0xFFFFFFF) rfl,
    decodeEncodeRoundTrip (.reservedA 0) rfl, decodeTableWord_of_encode rfl rfl, decodeTableWord_of_encode rfl rfl,
    decodeTableWord_of_encode rfl rfl, decodeTableWord_of_encode rfl rfl, decodeEncodeRoundTrip (.irqW1c 0x7F) rfl,
    decodeEncodeRoundTrip .rdIrqStatus rfl,
    decodeEncodeRoundTrip (.wrXsStep3 0xABC) rfl, decodeEncodeRoundTrip (.reservedAccess (.read 0x024)) rfl, rfl⟩

end Sys2Proof.Proofs
end

section
/-! PROOFS. Family 30_encoding.md: the fields of the configuration registers as integers (R83-R85; 10_state.md R30, R35,
R36). -/

namespace Sys2Proof.Proofs

open Sys2Proof Sys2Proof.Machine

/-! ## Fields of a word -/

theorem field_toNat (w : Word) (start len : Nat) :
    (w.extractLsb' start len).toNat = w.toNat / 2 ^ start % 2 ^ len := by
  rw [BitVec.extractLsb'_toNat, Nat.shiftRight_eq_div_pow]

theorem lowField_toNat (w : Word) (len : Nat) : (w.extractLsb' 0 len).toNat = w.toNat % 2 ^ len := by
  rw [field_toNat, pow_zero, Nat.div_one]

theorem highHalf_toNat (w : Word) : (w.extractLsb' 16 16).toNat = w.toNat / 65536 := by
  have hw := w.isLt
  rw [field_toNat]
  exact Nat.mod_eq_of_lt (by omega)

theorem bit_iff (w : Word) (k : Nat) : w.getLsbD k = true ↔ w.toNat / 2 ^ k % 2 = 1 := by
  rw [BitVec.getLsbD, Nat.testBit_eq_decide_div_mod_eq, decide_eq_true_iff]

theorem lane_toNat (w : Word) (k : Nat) : (lane w k).toNat = w.toNat / 256 ^ k % 256 := by
  rw [lane, field_toNat, pow_mul]
  rfl

theorem lane_eq_ofNat (w : Word) (k : Nat) : lane w k = BitVec.ofNat 8 (w.toNat / 256 ^ k) := by
  apply BitVec.eq_of_toNat_eq
  rw [lane_toNat, BitVec.toNat_ofNat]

/-! ## Signed fields -/

theorem toInt_halfword (x : BitVec 16) :
    x.toInt = if x.toNat < 32768 then (x.toNat : Int) else (x.toNat : Int) - 65536 := by
  rw [BitVec.toInt_eq_toNat_cond]
  exact if_congr (by omega) rfl rfl

theorem toInt_byte (x : Byte) : x.toInt = if x.toNat < 128 then (x.toNat : Int) else (x.toNat : Int) - 256 := by
  rw [BitVec.toInt_eq_toNat_cond]
  exact if_congr (by omega) rfl rfl

theorem lowHalf_toInt (w : Word) : (w.extractLsb' 0 16).toInt =
    if w.toNat % 65536 < 32768 then ((w.toNat % 65536 : Nat) : Int) else ((w.toNat % 65536 : Nat) : Int) - 65536 := by
  rw [toInt_halfword, lowField_toNat]
  rfl

theorem highHalf_toInt (w : Word) : (w.extractLsb' 16 16).toInt =
    if w.toNat / 65536 < 32768 then ((w.toNat / 65536 : Nat) : Int) else ((w.toNat / 65536 : Nat) : Int) - 65536 := by
  rw [toInt_halfword, highHalf_toNat]

/-- REL_i[k] is lane k mod 4 of its word, as a two's complement integer (10_state.md R42). -/
theorem rel_eq_lane_toInt (x : XsSlice) {k : Nat} (hk : k < 8) :
    x.rel k = (lane (if k < 4 then x.relA else x.relB) (k % 4)).toInt := by
  unfold XsSlice.rel
  by_cases hlow : k < 4
  · rw [if_pos hlow, if_pos hlow, Nat.mod_eq_of_lt hlow]
  · rw [if_neg hlow, if_neg hlow, show k - 4 = k % 4 by omega]

/-! ## Codes -/

/-- The widths of the codes 0, 1 and 2 (30_encoding.md R85). -/
theorem widthBytes_field (w : Word) (start : Nat) :
    (w.toNat / 2 ^ start % 4 = 0 → widthBytes (w.extractLsb' start 2) = 1) ∧
    (w.toNat / 2 ^ start % 4 = 1 → widthBytes (w.extractLsb' start 2) = 2) ∧
    (w.toNat / 2 ^ start % 4 = 2 → widthBytes (w.extractLsb' start 2) = 4) := by
  rw [widthBytes, field_toNat]
  exact ⟨congrArg (2 ^ ·), congrArg (2 ^ ·), congrArg (2 ^ ·)⟩

theorem ckType_toNat (c : ClRegs) : c.ckType.toNat = c.ckCfg.toNat % 8 := lowField_toNat c.ckCfg 3

theorem family_of_code {c : ClRegs} {n : Nat} (h : c.ckCfg.toNat % 8 = n) :
    c.family = ckFamilyOf (BitVec.ofNat 3 n) := by
  rw [ClRegs.family, ← h, ← ckType_toNat, BitVec.ofNat_toNat, BitVec.setWidth_eq]

/-! ## The header pattern -/

theorem hdrAll_getElem? (c : ClRegs) {k : Nat} (hk : k < 8) :
    c.hdrAll[k]? = some (lane (if k < 4 then c.hdrBytes0 else c.hdrBytes1) (k % 4)) := by
  interval_cases k <;> rfl

/-- Settles O38: each field is read off the word that holds it. -/
theorem configFieldsAsIntegers : Obligations.ConfigFieldsAsIntegers := by
  intro c x
  refine ⟨fun p hp => ?signed, fun k hk b hb => ?rel, fun p hp => ?unsigned, fun p hp => ?width, fun p hp => ?bit,
    fun p hp hcode => ?family, fun hcode => ?noFamily, fun k hk hlen => ?header⟩
  case signed =>
    fin_cases hp
    exacts [lowHalf_toInt c.ckRange, highHalf_toInt c.ckRange, lowHalf_toInt c.ckStoreAt, lowHalf_toInt x.bounds,
      highHalf_toInt x.bounds]
  case rel =>
    rw [rel_eq_lane_toInt x hk, toInt_byte, lane_toNat, apply_ite BitVec.toNat, ← hb]
  case unsigned =>
    fin_cases hp
    exacts [lowField_toNat c.frameCfg 4, lowField_toNat c.fixedLen 16, lowField_toNat c.lenField 16,
      highHalf_toNat c.lenField, lowField_toNat c.maxLen 16, lowField_toNat c.syncWindow 16, lowField_toNat x.step 8,
      field_toNat x.step 8 4, field_toNat c.ckCfg 16 4]
  case width =>
    fin_cases hp
    exacts [widthBytes_field c.frameCfg 12, widthBytes_field c.ckCfg 8]
  case bit =>
    fin_cases hp
    exacts [bit_iff c.frameCfg 8, bit_iff c.frameCfg 9, bit_iff c.frameCfg 10, bit_iff c.ckCfg 4, bit_iff c.ckCfg 5,
      bit_iff c.ckCfg 6, bit_iff c.ckCfg 10, bit_iff c.ckCfg 12]
  case family =>
    fin_cases hp <;> exact ⟨family_of_code hcode, rfl⟩
  case noFamily =>
    obtain ⟨hnone, -, -⟩ := family_iff c
    exact hnone.2 (ckType_toNat c ▸ hcode)
  case header =>
    rw [ClRegs.hdr, List.getElem?_take_of_lt hlen, hdrAll_getElem? c hk, lane_eq_ofNat, apply_ite BitVec.toNat]

end Sys2Proof.Proofs
end

section
/-! PROOFS. Family 30_encoding.md: the words of the output records (R87-R93). -/

namespace Sys2Proof.Proofs

open Sys2Proof Sys2Proof.Machine

/-! ## The payload of a FRAME record -/

theorem lane_ofLanes_getD (b0 b1 b2 b3 : Byte) {k : Nat} (hk : k < 4) :
    lane (ofLanes b0 b1 b2 b3) k = [b0, b1, b2, b3].getD k 0 := by
  obtain ⟨h0, h1, h2, h3⟩ := lane_ofLanes b0 b1 b2 b3
  interval_cases k
  exacts [h0, h1, h2, h3]

/-- A first word made of the frame's first bytes, or 0 past its end. -/
theorem lanes_of_firstWord {frame : List Byte} {ws : List Word} (h : packWords frame =
    ofLanes (frame.getD 0 0) (frame.getD 1 0) (frame.getD 2 0) (frame.getD 3 0) :: ws) :
    ∃ w, (packWords frame)[0]? = some w ∧ ∀ k, k < 4 → lane w k = frame.getD (4 * 0 + k) 0 := by
  refine ⟨_, by rw [h]; rfl, fun k hk => ?_⟩
  rw [lane_ofLanes_getD _ _ _ _ hk]
  interval_cases k <;> rfl

/-- Lane k of payload word j is frame byte 4j + k, or 0 past the frame's end (30_encoding.md R89). -/
theorem packWords_lane (frame : List Byte) {j : Nat} (hj : j < (frame.length + 3) / 4) :
    ∃ w, (packWords frame)[j]? = some w ∧ ∀ k, k < 4 → lane w k = frame.getD (4 * j + k) 0 := by
  induction frame using packWords.induct generalizing j with
  | case1 => exact absurd hj (Nat.not_lt_zero j)
  | case2 b0 | case3 b0 b1 | case4 b0 b1 b2 =>
    obtain rfl : j = 0 := by simpa using hj
    exact lanes_of_firstWord rfl
  | case5 b0 b1 b2 b3 rest ih =>
    cases j with
    | zero => exact lanes_of_firstWord rfl
    | succ j =>
      simp only [List.length_cons] at hj
      obtain ⟨w, hw, hlanes⟩ := ih (j := j) (by omega)
      refine ⟨w, hw, fun k hk => ?_⟩
      rw [hlanes k hk, show 4 * (j + 1) + k = 4 * j + k + 1 + 1 + 1 + 1 by omega]
      rfl

theorem getD_eq_ite (frame : List Byte) (i : Nat) :
    frame.getD i 0 = if i < frame.length then frame.getD i 0 else 0 := by
  split
  · rfl
  · exact List.getD_eq_default _ _ (by omega)

/-! ## Descriptors -/

/-- A descriptor's fields (30_encoding.md R88). -/
def IsDescriptor (d : Word) (type : BitVec 4) (flags : BitVec 2) (reason : BitVec 8) (len : Nat) : Prop :=
  d.extractLsb' 0 4 = type ∧ d.extractLsb' 4 2 = flags ∧ d.extractLsb' 6 2 = 0 ∧ d.extractLsb' 8 8 = reason ∧
  (d.extractLsb' 16 16).toNat = len

theorem descLen_eq_shifted (n : Nat) : descLen n = (BitVec.ofNat 16 n).setWidth 32 <<< 16 := by
  apply BitVec.eq_of_toNat_eq
  simp [descLen, Nat.shiftLeft_eq]
  omega

theorem or_descLen_below (d : Word) (n : Nat) {start len : Nat} (h : start + len ≤ 16) :
    (d ||| descLen n).extractLsb' start len = d.extractLsb' start len := by
  rw [BitVec.extractLsb'_or, descLen_eq_shifted, extract_outside_shifted_field _ _ _ _ (.inl h)]
  exact BitVec.or_zero

theorem or_descLen_len {d : Word} {n : Nat} (hd : d.extractLsb' 16 16 = 0) (hn : n < 65536) :
    ((d ||| descLen n).extractLsb' 16 16).toNat = n := by
  rw [BitVec.extractLsb'_or, hd, descLen_eq_shifted, extract_shifted_field _ _ (by omega)]
  exact toNat_of_eq_ofNat BitVec.zero_or hn

/-- LEN leaves the other fields of a descriptor as they are (30_encoding.md R88). -/
theorem IsDescriptor.or_descLen {d : Word} {type : BitVec 4} {flags : BitVec 2} {reason : BitVec 8} {n : Nat}
    (hd : IsDescriptor d type flags reason 0) (hn : n < 65536) :
    IsDescriptor (d ||| descLen n) type flags reason n := by
  obtain ⟨htype, hflags, hgap, hreason, hlen⟩ := hd
  exact ⟨(or_descLen_below d n (by omega)).trans htype, (or_descLen_below d n (by omega)).trans hflags,
    (or_descLen_below d n (by omega)).trans hgap, (or_descLen_below d n (by omega)).trans hreason,
    or_descLen_len (BitVec.eq_of_toNat_eq hlen) hn⟩

/-- Settles O44: each descriptor is a word with the fields below LEN, and LEN beside them. -/
theorem frameRecordLayout : Obligations.FrameRecordLayout := by
  refine ⟨fun frame => ⟨rfl, frameRecord_length frame, fun j k hj hk => ?payload⟩,
    fun n computed stored raw => ⟨rfl, rfl, rfl, rfl, rfl⟩, fun frame n computed stored raw hframe hn p hp => ?fields⟩
  case payload =>
    obtain ⟨w, hw, hlanes⟩ := packWords_lane frame hj
    refine ⟨w, ?_, (hlanes k hk).trans (getD_eq_ite _ _)⟩
    rw [Nat.add_comm]
    exact hw
  case fields =>
    have hvalid : IsDescriptor 0x31 1 3 0 0 := ⟨rfl, rfl, rfl, rfl, rfl⟩
    have hmismatch : IsDescriptor 0x02 2 0 0 0 := ⟨rfl, rfl, rfl, rfl, rfl⟩
    have htruncated : IsDescriptor 0x04 4 0 0 0 := ⟨rfl, rfl, rfl, rfl, rfl⟩
    fin_cases hp
    exacts [⟨_, rfl, hvalid.or_descLen hframe⟩, ⟨_, rfl, hmismatch.or_descLen hn⟩,
      ⟨0x0103, rfl, rfl, rfl, rfl, rfl, rfl⟩, ⟨0x0203, rfl, rfl, rfl, rfl, rfl, rfl⟩,
      ⟨0x0303, rfl, rfl, rfl, rfl, rfl, rfl⟩, ⟨_, rfl, htruncated.or_descLen hn⟩]

end Sys2Proof.Proofs
end

section
/-! PROOFS. Family 40_checksum_engine.md: SUM8 (R104) and the CRC (R109-R116). The shift step is linear, so the bits
that stay in the register and the byte that leaves it can be divided apart; that is the table step. -/

namespace Sys2Proof.Proofs

open Sys2Proof Sys2Proof.Machine

/-! ## SUM8 -/

theorem foldl_add_toNat (bytes : List Byte) (acc : Byte) :
    (bytes.foldl (· + ·) acc).toNat = (acc.toNat + (bytes.map BitVec.toNat).sum) % 256 := by
  induction bytes generalizing acc with
  | nil => exact (Nat.mod_eq_of_lt acc.isLt).symm
  | cons b bytes ih =>
    rw [List.foldl_cons, ih, BitVec.toNat_add, List.map_cons, List.sum_cons, Nat.mod_add_mod, Nat.add_assoc]

/-- Settles O29: each addition drops the carry out of bit 7. -/
theorem sum8IsWraparoundSum : Obligations.Sum8IsWraparoundSum := by
  refine ⟨rfl, rfl, fun c whole bytes => ?_⟩
  have hsum : (sum8 bytes).toNat = (bytes.map BitVec.toNat).sum % 256 := by
    rw [sum8, foldl_add_toNat]
    exact congrArg (· % 256) (Nat.zero_add _)
  rw [← hsum, BitVec.ofNat_toNat]
  rfl

/-! ## The shift step -/

section
variable {w : Nat} (poly : BitVec w)

theorem crcShift_xor (x y : BitVec w) : crcShift poly (x ^^^ y) = crcShift poly x ^^^ crcShift poly y := by
  have hswap : ∀ u v : BitVec w, u ^^^ v ^^^ poly = u ^^^ poly ^^^ v := fun u v => by
    rw [BitVec.xor_assoc, BitVec.xor_comm v, BitVec.xor_assoc]
  simp only [crcShift, BitVec.msb_xor, BitVec.shiftLeft_xor_distrib]
  cases x.msb <;> cases y.msb
  case false.false => rfl
  case false.true => exact BitVec.xor_assoc _ _ _
  case true.false => exact hswap _ _
  case true.true =>
    calc x <<< 1 ^^^ y <<< 1
      _ = x <<< 1 ^^^ y <<< 1 ^^^ poly ^^^ poly := by rw [BitVec.xor_assoc _ poly, BitVec.xor_self, BitVec.xor_zero]
      _ = x <<< 1 ^^^ poly ^^^ (y <<< 1 ^^^ poly) := by rw [hswap (x <<< 1), BitVec.xor_assoc]

theorem crcShift8_xor (x y : BitVec w) : crcShift8 poly (x ^^^ y) = crcShift8 poly x ^^^ crcShift8 poly y :=
  Function.Semiconj₂.iterate (crcShift_xor poly) 8 x y

/-- While the bits shifted out are 0, the division only shifts. -/
theorem crcShift_iterate_of_top_zero (k : Nat) (x : BitVec w) (htop : ∀ i, w - k ≤ i → x.getLsbD i = false) :
    (crcShift poly)^[k] x = x <<< k := by
  induction k generalizing x with
  | zero => simp
  | succ k ih =>
    have hmsb : x.msb = false := by rw [BitVec.msb_eq_getLsbD_last]; exact htop _ (by omega)
    have hshift : crcShift poly x = x <<< 1 := by simp [crcShift, hmsb]
    rw [Function.iterate_succ_apply, hshift, ih, ← BitVec.shiftLeft_add, Nat.add_comm 1 k]
    intro i hi
    rw [BitVec.getLsbD_shiftLeft, htop (i - 1) (by omega), Bool.and_false]

/-! ## The table step -/

theorem crcTop_xor (d e : Byte) : crcTop w (d ^^^ e) = crcTop w d ^^^ crcTop w e := by
  rw [crcTop, BitVec.setWidth_xor, BitVec.shiftLeft_xor_distrib]
  rfl

theorem crcTop_shiftLeft_byte (d : Byte) : crcTop w d <<< 8 = 0 := by
  rw [crcTop, ← BitVec.shiftLeft_add]
  exact BitVec.shiftLeft_eq_zero (by omega)

/-- Without its top byte a register has its top eight bits 0. -/
theorem xor_crcTop_topByte (hw : 8 ≤ w) (reg : BitVec w) (i : Nat) (hi : w - 8 ≤ i) :
    (reg ^^^ crcTop w ((reg >>> (w - 8)).setWidth 8)).getLsbD i = false := by
  by_cases hlt : i < w
  · simp [crcTop, hlt, show ¬i < w - 8 by omega, show i - (w - 8) < 8 by omega, show i - (w - 8) < w by omega,
      show w - 8 + (i - (w - 8)) = i by omega]
  · exact BitVec.getLsbD_of_ge _ _ (by omega)

theorem crcByteTable_eq_crcByteBitwise (hw : 8 ≤ w) (reg : BitVec w) (d : Byte) :
    crcByteTable poly reg d = crcByteBitwise poly reg d := by
  let hi : Byte := (reg >>> (w - 8)).setWidth 8
  have hsplit : reg ^^^ crcTop w d = reg ^^^ crcTop w hi ^^^ crcTop w (hi ^^^ d) := by
    rw [crcTop_xor, BitVec.xor_assoc, ← BitVec.xor_assoc (crcTop w hi), BitVec.xor_self, BitVec.zero_xor]
  have hlow : crcShift8 poly (reg ^^^ crcTop w hi) = reg <<< 8 := by
    rw [crcShift8, crcShift_iterate_of_top_zero poly 8 _ (xor_crcTop_topByte hw reg), BitVec.shiftLeft_xor_distrib,
      crcTop_shiftLeft_byte]
    exact BitVec.xor_zero
  rw [crcByteBitwise, hsplit, crcShift8_xor, hlow]
  rfl

end

/-- Settles O30: the division of the top byte and that of the bits below it add up. -/
theorem tableStepEqualsBitwiseStep : Obligations.TableStepEqualsBitwiseStep :=
  fun _ poly reg d hw => crcByteTable_eq_crcByteBitwise poly hw reg d

/-! ## The CRC -/

theorem value_of_family {c : ClRegs} {f : CkFamily} (h : c.family = some f) (frame : List Byte) :
    c.value frame = some (familyValue c f frame (c.covered frame)) := by
  rw [ClRegs.value, h, Option.map_some]

theorem valueSpan_of_family {c : ClRegs} {f : CkFamily} (h : c.family = some f) (span : List Byte) :
    c.valueSpan span = some (familyValue c f span span) := by
  rw [ClRegs.valueSpan, h, Option.map_some]

/-- `Crc(w, data)` is one fold of the polynomial division, whatever CRC_METHOD says (40_checksum_engine.md R110,
R115). -/
theorem crc_eq_division {w : Nat} (hw : 8 ≤ w) (p : CrcParams w) (data : List Byte) :
    crc p data = p.output (data.foldl (fun reg b => crcByteBitwise p.poly reg (p.input b)) p.init) := by
  simp only [crc, crcByteTable_eq_crcByteBitwise p.poly hw, ite_self]

/-- The realisation of the step is no parameter of the CRC (40_checksum_engine.md R115). -/
theorem crc_byTable {w : Nat} (hw : 8 ≤ w) (p : CrcParams w) (table : Bool) (data : List Byte) :
    crc { p with byTable := table } data = crc p data := by
  rw [crc_eq_division hw, crc_eq_division hw]
  rfl

theorem bit_eq_decide (w : Word) (k : Nat) : w.getLsbD k = decide (w.toNat / 2 ^ k % 2 = 1) :=
  Bool.eq_iff_iff.2 ((bit_iff w k).trans decide_eq_true_iff.symm)

/-- The low half of a parameter register (40_checksum_engine.md R109). -/
theorem setWidth_eq_ofNat_mod (w : Word) : w.setWidth 16 = BitVec.ofNat 16 (w.toNat % 65536) := by
  apply BitVec.eq_of_toNat_eq
  rw [BitVec.toNat_setWidth, BitVec.toNat_ofNat, Nat.mod_mod]

theorem crcParams_eq (c : ClRegs) (w : Nat) : c.crcParams w =
    ⟨c.crcPoly.setWidth w, c.crcInit.setWidth w, c.crcXorout.setWidth w, decide (c.ckCfg.toNat / 32 % 2 = 1),
      decide (c.ckCfg.toNat / 64 % 2 = 1), decide (c.ckCfg.toNat / 4096 % 2 = 1)⟩ := by
  rw [ClRegs.crcParams, ClRegs.refin, ClRegs.refout, ClRegs.crcByTable, bit_eq_decide, bit_eq_decide, bit_eq_decide]
  rfl

/-- Settles O32: the parameters are fields of the registers, and a check value is checked on the division alone. -/
theorem namedCrcVariants : Obligations.NamedCrcVariants := by
  refine ⟨?division, fun w p => rfl, ?registers, fun table => ⟨?crc16, ?crc32⟩⟩
  case division =>
    rintro w p data shift reg hw rfl rfl
    exact crc_eq_division hw p data
  case registers =>
    rintro c table refin refout rfl rfl rfl
    refine ⟨fun hcode p hp => ?_, fun hcode p hp => ?_⟩
    · have hparams : p = c.crcParams 16 := by
        rw [hp, crcParams_eq, setWidth_eq_ofNat_mod, setWidth_eq_ofNat_mod, setWidth_eq_ofNat_mod]
      have hfamily := family_of_code hcode
      subst hparams
      exact ⟨fun frame _ => value_of_family hfamily frame, valueSpan_of_family hfamily⟩
    · have hparams : p = c.crcParams 32 := by
        rw [hp, crcParams_eq, BitVec.setWidth_eq, BitVec.setWidth_eq, BitVec.setWidth_eq]
      have hfamily := family_of_code hcode
      subst hparams
      exact ⟨fun frame _ => value_of_family hfamily frame, valueSpan_of_family hfamily⟩
  case crc16 =>
    intro p hp
    rw [crc_byTable (by decide) ⟨_, _, _, _, _, false⟩]
    fin_cases hp <;> dsimp only <;> decide +kernel
  case crc32 =>
    intro p hp
    rw [crc_byTable (by decide) ⟨_, _, _, _, _, false⟩]
    fin_cases hp <;> dsimp only <;> decide +kernel

end Sys2Proof.Proofs
end

section
/-! PROOFS. Family 40_checksum_engine.md: the range, the bytes it covers and the checksum geometry (R101, R102), and the
slices of XOR16 with their visits (R105-R107). -/

namespace Sys2Proof.Proofs

open Sys2Proof Sys2Proof.Machine

/-! ## The range -/

theorem boundsLegal_iff (incl : Bool) (a e : Int) (n : Nat) :
    boundsLegal incl a e n = true ↔ 0 ≤ a ∧ a ≤ e ∧ if incl then e ≤ (n : Int) - 1 else e ≤ n := by
  cases incl <;> exact decide_eq_true_iff

/-- A legal range covers the bytes from one position of the frame up to another. -/
theorem covered_of_rangeLegal {c : ClRegs} {frame : List Byte} (h : c.rangeLegal frame.length = true) :
    ∃ first stop : Nat, absOff c.rangeFrom frame.length = first ∧
      (if c.rangeIncl then absOff c.rangeTo frame.length + 1 else absOff c.rangeTo frame.length) = stop ∧
      first ≤ stop ∧ stop ≤ frame.length ∧ c.covered frame = (frame.take stop).drop first := by
  obtain ⟨hfirst, hle, hend⟩ := (boundsLegal_iff _ _ _ _).1 h
  obtain ⟨first, hf⟩ := Int.eq_ofNat_of_zero_le hfirst
  obtain ⟨last, ht⟩ := Int.eq_ofNat_of_zero_le (hfirst.trans hle)
  refine ⟨first, if c.rangeIncl then last + 1 else last, hf, ?_⟩
  rw [ClRegs.covered, hf, ht, Int.toNat_natCast, Int.toNat_natCast]
  cases hincl : c.rangeIncl <;>
    simp only [hincl, if_true, if_false, Bool.false_eq_true, and_true, true_and] at hend ⊢ <;> omega

theorem covered_length {c : ClRegs} {frame : List Byte} (h : c.rangeLegal frame.length = true) :
    ((c.covered frame).length : Int) =
      (if c.rangeIncl then absOff c.rangeTo frame.length + 1 else absOff c.rangeTo frame.length) -
        absOff c.rangeFrom frame.length := by
  obtain ⟨first, stop, hfirst, hstop, hle, hend, hcov⟩ := covered_of_rangeLegal h
  rw [hcov, hfirst, hstop, List.length_drop, List.length_take]
  omega

theorem covered_getElem? {c : ClRegs} {frame : List Byte} (h : c.rangeLegal frame.length = true) {k : Nat}
    (hk : k < (c.covered frame).length) :
    (c.covered frame)[k]? = frame[(absOff c.rangeFrom frame.length).toNat + k]? := by
  obtain ⟨first, stop, hfirst, -, -, -, hcov⟩ := covered_of_rangeLegal h
  rw [hcov, List.length_drop, List.length_take] at hk
  rw [hcov, hfirst, Int.toNat_natCast, List.getElem?_drop, List.getElem?_take_of_lt (by omega)]

/-! ## The geometry -/

theorem family_eq_xor16_iff (c : ClRegs) : c.family = some .xor16 ↔ c.ckType = 2 := by
  obtain ⟨-, -, hxor⟩ := family_iff c
  exact hxor.trans (BitVec.toNat_inj (y := 2))

theorem ckGeom_iff (c : ClRegs) (n : Nat) : c.ckGeom n = true ↔
    (c.family ≠ some .xor16 → c.rangeLegal n = true) ∧
    (c.family = some .xor16 → ∀ x ∈ c.usedSlices, x.legal c.rangeIncl n = true) ∧
    0 ≤ c.storePos n ∧ c.storePos n + c.sw ≤ n := by
  rw [ClRegs.ckGeom, Bool.and_eq_true, decide_eq_true_iff]
  by_cases hxor : c.family = some .xor16
  · simp [hxor, ClRegs.slicesLegal]
  · simp [hxor]

/-- Settles O35: the covered bytes are those between the two resolved offsets. -/
theorem rangeAndGeometry : Obligations.RangeAndGeometry := by
  rintro c frame f t s hf ht hs
  obtain rfl : f = absOff c.rangeFrom frame.length := hf
  obtain rfl : t = absOff c.rangeTo frame.length := ht
  obtain rfl : s = c.storePos frame.length := hs
  refine ⟨boundsLegal_iff _ _ _ _, fun h => ⟨?length, fun k hk => covered_getElem? h hk⟩, ?geometry⟩
  case length => rw [covered_length h, apply_ite (· - absOff c.rangeFrom frame.length)]
  case geometry => rw [ckGeom_iff, Ne, family_eq_xor16_iff]; rfl

/-! ## Slices -/

/-- The numbers from 0 while a condition holds, for a condition that holds below each number it holds of. -/
theorem takeWhile_range {p : Nat → Bool} {n : Nat} (hdown : ∀ j k, j ≤ k → p k = true → p j = true)
    (hend : ¬p n = true) : ∃ m, (List.range n).takeWhile p = List.range m ∧ ∀ k, k < m ↔ p k = true := by
  let m := (List.range n).findIdx fun k => !p k
  have hm : m ≤ n := List.findIdx_le_length.trans_eq List.length_range
  refine ⟨m, ?_, fun k => ⟨fun hk => ?_, fun hk => ?_⟩⟩
  · rw [List.takeWhile_eq_take_findIdx_not, List.take_range, Nat.min_eq_left hm]
  · simpa using List.not_of_lt_findIdx hk
  · by_contra hge
    have hmn : m < n := by
      by_contra hnm
      exact hend (hdown n k (by omega) hk)
    have hfail := List.findIdx_getElem (w := hmn.trans_eq List.length_range.symm)
    exact absurd (hdown m k (by omega) hk) (by simpa using hfail)

/-- Position k of the slice, counted from its start in strides, is one before its end (40_checksum_engine.md R105). -/
def sliceReaches (x : XsSlice) (incl : Bool) (n k : Nat) : Bool :=
  let p := absOff x.startOff n + (k * x.stride : Nat)
  if incl then decide (p ≤ absOff x.endOff n) else decide (p < absOff x.endOff n)

theorem sliceReaches_iff (x : XsSlice) (incl : Bool) (n k : Nat) : sliceReaches x incl n k = true ↔
    if incl then absOff x.startOff n + (k * x.stride : Nat) ≤ absOff x.endOff n
    else absOff x.startOff n + (k * x.stride : Nat) < absOff x.endOff n := by
  cases incl <;> exact decide_eq_true_iff

theorem positions_eq_map (x : XsSlice) (incl : Bool) (n : Nat) : x.positions incl n =
    ((List.range (n + 1)).takeWhile (sliceReaches x incl n)).map
      fun k => absOff x.startOff n + (k * x.stride : Nat) := List.takeWhile_map

theorem sliceReaches_of_le {x : XsSlice} {incl : Bool} {n j k : Nat} (hjk : j ≤ k)
    (hk : sliceReaches x incl n k = true) : sliceReaches x incl n j = true := by
  have hmono : j * x.stride ≤ k * x.stride := Nat.mul_le_mul_right _ hjk
  rw [sliceReaches_iff] at hk ⊢
  split_ifs at hk ⊢ <;> omega

/-- With a stride the position numbered n + 1 is past the end of every legal slice. -/
theorem not_sliceReaches_of_legal {x : XsSlice} {incl : Bool} {n : Nat} (hstride : 1 ≤ x.stride)
    (hlegal : boundsLegal incl (absOff x.startOff n) (absOff x.endOff n) n = true) :
    ¬sliceReaches x incl n (n + 1) = true := by
  obtain ⟨hstart, -, hend⟩ := (boundsLegal_iff _ _ _ _).1 hlegal
  have hbeyond : n + 1 ≤ (n + 1) * x.stride := Nat.le_mul_of_pos_right _ hstride
  rw [sliceReaches_iff]
  split_ifs at hend ⊢ <;> omega

/-- The positions of a slice with legal bounds and a stride (40_checksum_engine.md R105). -/
theorem positions_eq (x : XsSlice) (incl : Bool) (n : Nat) (hstride : 1 ≤ x.stride)
    (hlegal : boundsLegal incl (absOff x.startOff n) (absOff x.endOff n) n = true) :
    ∃ m : Nat, x.positions incl n = (List.range m).map (fun k => absOff x.startOff n + (k * x.stride : Nat)) ∧
      ∀ k : Nat, k < m ↔
        if incl then absOff x.startOff n + (k * x.stride : Nat) ≤ absOff x.endOff n
        else absOff x.startOff n + (k * x.stride : Nat) < absOff x.endOff n := by
  obtain ⟨m, hm, hiff⟩ :=
    takeWhile_range (fun j k h hk => sliceReaches_of_le h hk) (not_sliceReaches_of_legal hstride hlegal)
  exact ⟨m, (positions_eq_map x incl n).trans (congrArg _ hm), fun k => (hiff k).trans (sliceReaches_iff x incl n k)⟩

/-! ## Visits -/

section
variable {α β : Type} {f : α → List β} {r : Nat}

theorem length_flatMap_of_length_eq (hlen : ∀ a, (f a).length = r) (l : List α) :
    (l.flatMap f).length = l.length * r := by
  rw [List.length_flatMap, funext hlen, List.map_const', List.sum_replicate, smul_eq_mul]

/-- The entries of equally long lists in a row, by the number of the list and the place in it. -/
theorem flatMap_getElem? (hlen : ∀ a, (f a).length = r) {l : List α} {k j : Nat} {a : α} (hk : l[k]? = some a)
    (hj : j < r) : (l.flatMap f)[k * r + j]? = (f a)[j]? := by
  induction l generalizing k with
  | nil => cases hk
  | cons b l ih =>
    rw [List.flatMap_cons]
    cases k with
    | zero =>
      obtain rfl : b = a := by simpa using hk
      rw [Nat.zero_mul, Nat.zero_add, List.getElem?_append_left (hj.trans_eq (hlen b).symm)]
    | succ k =>
      rw [List.getElem?_append_right (by rw [hlen, Nat.succ_mul]; omega), hlen, ← ih hk]
      congr 1
      rw [Nat.succ_mul]
      omega

end

/-- The visits at one position (40_checksum_engine.md R105). -/
theorem mem_visits (x : XsSlice) (incl : Bool) (n : Nat) (v : Int × Nat) :
    v ∈ x.visits incl n ↔ ∃ p ∈ x.positions incl n, ∃ j, j < x.nRel ∧ (p + x.rel j, j % 2) = v := by
  simp only [XsSlice.visits, List.mem_flatMap, List.mem_map, List.mem_range]

theorem slice_legal_iff (x : XsSlice) (incl : Bool) (n : Nat) : x.legal incl n = true ↔
    boundsLegal incl (absOff x.startOff n) (absOff x.endOff n) n = true ∧
    ∀ v ∈ x.visits incl n, 0 ≤ v.1 ∧ v.1 < n := by
  simp only [XsSlice.legal, Bool.and_eq_true, List.all_eq_true, decide_eq_true_eq]

/-! ## Lanes -/

theorem xorVisit_lanes (frame : List Byte) (acc : BitVec 16) (q : Nat) (b : Byte) (hq : frame[q]? = some b) :
    ((xorVisit frame acc (q, 0)).extractLsb' 0 8 = acc.extractLsb' 0 8 ^^^ b ∧
      (xorVisit frame acc (q, 0)).extractLsb' 8 8 = acc.extractLsb' 8 8) ∧
    ((xorVisit frame acc (q, 1)).extractLsb' 0 8 = acc.extractLsb' 0 8 ∧
      (xorVisit frame acc (q, 1)).extractLsb' 8 8 = acc.extractLsb' 8 8 ^^^ b) := by
  have hbyte : byteAt frame (q : Int) = b := by simp [byteAt, hq]
  simp only [xorVisit, hbyte]
  refine ⟨⟨?low0, ?high0⟩, ?low1, ?high1⟩ <;> ext i hi
  case low0 => simp [hi, show i < 16 by omega]
  case high0 => simp
  case low1 => simp [hi]
  case high1 => simp [hi, show 8 + i < 16 by omega]

/-- Settles O34: the positions are numbered, and every position has the same number of visits. -/
theorem sliceVisitsAndLanes : Obligations.SliceVisitsAndLanes := by
  have hvisits : ∀ (x : XsSlice) (p : Int), ((List.range x.nRel).map fun j => (p + x.rel j, j % 2)).length = x.nRel :=
    fun x p => by rw [List.length_map, List.length_range]
  refine ⟨positions_eq, fun x incl n => ⟨length_flatMap_of_length_eq (hvisits x) _, fun k j p hp hj => ?visit⟩,
    fun x incl n => ?legal, xorVisit_lanes, fun c frame v hcode hlegal hv => ?value⟩
  case visit =>
    rw [XsSlice.visits, flatMap_getElem? (hvisits x) hp hj, List.getElem?_map, List.getElem?_range hj, Option.map_some]
  case legal =>
    rw [slice_legal_iff, boundsLegal_iff]
    refine and_congr_right fun _ => ⟨fun h p hp j hj => h _ ((mem_visits _ _ _ _).2 ⟨p, hp, j, hj, rfl⟩), ?_⟩
    rintro h v hv
    obtain ⟨p, hp, j, hj, rfl⟩ := (mem_visits _ _ _ _).1 hv
    exact h p hp j hj
  case value =>
    have hxor : v = xor16 c frame := by
      rw [hv, xor16, List.flatMap_def]
      rfl
    subst hxor
    have hfamily := family_of_code hcode
    exact ⟨valueSpan_of_family hfamily frame, fun _ => value_of_family hfamily frame⟩

end Sys2Proof.Proofs
end

section
/-! PROOFS. Family 40_checksum_engine.md: the store field as a number (R117), and a frame whose store field takes the
computed checksum (R121). -/

namespace Sys2Proof.Proofs

open Sys2Proof Sys2Proof.Machine

/-! ## Bytes and numbers -/

theorem leNat_eq_sum (bs : List Byte) :
    leNat bs = ∑ i ∈ Finset.range bs.length, (bs.getD i 0).toNat * 256 ^ i := by
  induction bs with
  | nil => rfl
  | cons b bs ih =>
    rw [List.length_cons, Finset.sum_range_succ', leNat, ih, Finset.mul_sum, Nat.add_comm]
    congr 1
    · refine Finset.sum_congr rfl fun i _ => ?_
      rw [List.getD_cons_succ]
      ring
    · simp

theorem leNat_reverse_eq_sum (bs : List Byte) :
    leNat bs.reverse = ∑ i ∈ Finset.range bs.length, (bs.getD i 0).toNat * 256 ^ (bs.length - 1 - i) := by
  rw [leNat_eq_sum, List.length_reverse, ← Finset.sum_range_reflect]
  refine Finset.sum_congr rfl fun i hi => ?_
  have hlt := Finset.mem_range.1 hi
  rw [List.getD_eq_getElem?_getD, List.getElem?_reverse (by omega), ← List.getD_eq_getElem?_getD,
    show bs.length - 1 - (bs.length - 1 - i) = i by omega]

/-- The bytes of a number, least significant first, denote it as far as they reach. -/
theorem leNat_digits (w v : Nat) :
    leNat ((List.range w).map fun k => BitVec.ofNat 8 (v / 256 ^ k)) = v % 256 ^ w := by
  induction w generalizing v with
  | zero => simp [leNat, Nat.mod_one]
  | succ w ih =>
    have hdiv : ∀ k, v / 256 ^ (k + 1) = v / 256 / 256 ^ k := fun k => by rw [Nat.div_div_eq_div_mul, pow_succ']
    rw [List.range_succ_eq_map, List.map_cons, List.map_map, leNat, pow_succ', Nat.mod_mul, ← ih (v / 256)]
    simp only [Function.comp_def, hdiv, pow_zero, Nat.div_one, BitVec.toNat_ofNat]

/-! ## The store field -/

/-- The bytes at STORE_AT (40_checksum_engine.md R117). -/
def storeField (c : ClRegs) (frame : List Byte) : List Byte :=
  (frame.drop (c.storePos frame.length).toNat).take c.sw

theorem sw_le_four {c : ClRegs} (h : c.storeWidth ≠ 3) : c.sw ≤ 4 := by
  rw [ClRegs.sw]
  generalize c.storeWidth = code at h ⊢
  revert code
  decide

/-- The store field of a geometry that fits lies in the frame. -/
theorem storePos_of_ckGeom {c : ClRegs} {n : Nat} (h : c.ckGeom n = true) :
    ∃ s : Nat, c.storePos n = s ∧ s + c.sw ≤ n := by
  obtain ⟨-, -, hpos, hend⟩ := (ckGeom_iff c n).1 h
  obtain ⟨s, hs⟩ := Int.eq_ofNat_of_zero_le hpos
  exact ⟨s, hs, by omega⟩

theorem storeField_length {c : ClRegs} {frame : List Byte} (h : c.ckGeom frame.length = true) :
    (storeField c frame).length = c.sw := by
  obtain ⟨s, hs, hend⟩ := storePos_of_ckGeom h
  rw [storeField, hs, Int.toNat_natCast, List.length_take, List.length_drop]
  omega

/-- No legal store width is too wide for the stored word. -/
theorem stored_toNat {c : ClRegs} (hwidth : c.storeWidth ≠ 3) (frame : List Byte) :
    (c.stored frame).toNat = leNat (if c.storeBe then (storeField c frame).reverse else storeField c frame) := by
  have hlen : (storeField c frame).length ≤ 4 := (List.length_take_le _ _).trans (sw_le_four hwidth)
  have hlt : ∀ bs : List Byte, bs.length ≤ 4 → leNat bs < 2 ^ 32 := fun bs hbs =>
    (leNat_lt bs).trans_le (Nat.pow_le_pow_right (by decide) hbs)
  have hstored : c.stored frame =
      BitVec.ofNat 32 (leNat (if c.storeBe then (storeField c frame).reverse else storeField c frame)) := by
    cases hbe : c.storeBe <;> simp only [ClRegs.stored, hbe] <;> rfl
  refine toNat_of_eq_ofNat hstored (hlt _ ?_)
  split
  · rwa [List.length_reverse]
  · exact hlen

/-- Settles O36: read in either order, the store field is a weighted sum of its bytes. -/
theorem storedValueIsByteSum : Obligations.StoredValueIsByteSum := by
  intro c frame s hwidth hgeom hs
  have hbyte : ∀ i, i < c.sw → (storeField c frame).getD i 0 = frame.getD (s + i) 0 := fun i hi => by
    rw [storeField, ← hs, Int.toNat_natCast, List.getD_eq_getElem?_getD, List.getElem?_take_of_lt hi,
      List.getElem?_drop, ← List.getD_eq_getElem?_getD]
  rw [stored_toNat hwidth, apply_ite leNat, leNat_reverse_eq_sum, leNat_eq_sum, storeField_length hgeom]
  split
  all_goals exact Finset.sum_congr rfl fun i hi => by rw [hbyte i (Finset.mem_range.1 hi)]

/-! ## Writing the store field -/

theorem storeBytes_length (c : ClRegs) (v : Word) : (c.storeBytes v).length = c.sw := by
  rw [ClRegs.storeBytes, apply_ite List.length, List.length_reverse, ite_self, List.length_map, List.length_range]

section
variable {c : ClRegs} {frame : List Byte} (hgeom : c.ckGeom frame.length = true) (v : Word)
include hgeom

theorem withStored_length : (c.withStored frame v).length = frame.length := by
  obtain ⟨s, hs, hend⟩ := storePos_of_ckGeom hgeom
  simp only [ClRegs.withStored, hs, Int.toNat_natCast, List.length_append, List.length_take, List.length_drop,
    storeBytes_length]
  omega

theorem storeField_withStored : storeField c (c.withStored frame v) = c.storeBytes v := by
  obtain ⟨s, hs, hend⟩ := storePos_of_ckGeom hgeom
  rw [storeField, withStored_length hgeom, ClRegs.withStored, hs, Int.toNat_natCast, List.append_assoc,
    List.drop_left' (by rw [List.length_take]; omega), List.take_left' (storeBytes_length c v)]

theorem withStored_getElem?_outside {q : Int} (hq : 0 ≤ q) (hout : ¬c.inStore frame.length q) :
    (c.withStored frame v)[q.toNat]? = frame[q.toNat]? := by
  obtain ⟨s, hs, hend⟩ := storePos_of_ckGeom hgeom
  obtain ⟨k, rfl⟩ := Int.eq_ofNat_of_zero_le hq
  have hside : k < s ∨ s + c.sw ≤ k := by
    rw [ClRegs.inStore, hs] at hout
    omega
  have hhead : (frame.take s).length = s := by rw [List.length_take]; omega
  rw [ClRegs.withStored, hs, Int.toNat_natCast, Int.toNat_natCast, List.append_assoc]
  rcases hside with hbefore | hafter
  · rw [List.getElem?_append_left (by omega), List.getElem?_take_of_lt hbefore]
  · rw [List.getElem?_append_right (by omega), List.getElem?_append_right (by rw [storeBytes_length]; omega),
      List.getElem?_drop, storeBytes_length, hhead, show s + c.sw + (k - s - c.sw) = k by omega]

/-- A value that fits in the store field is read back (40_checksum_engine.md R117, R119). -/
theorem stored_withStored (hwidth : c.storeWidth ≠ 3) (hfits : v.toNat < 256 ^ c.sw) :
    c.stored (c.withStored frame v) = v := by
  apply BitVec.eq_of_toNat_eq
  rw [stored_toNat hwidth, storeField_withStored hgeom, ← Nat.mod_eq_of_lt hfits, ← leNat_digits]
  cases hbe : c.storeBe <;> simp [ClRegs.storeBytes, hbe]

end

/-! ## The checksum of a frame with another store field -/

/-- A family's value fits in its result width (30_encoding.md R84). -/
theorem familyValue_lt (c : ClRegs) (f : CkFamily) (whole bytes : List Byte) :
    (familyValue c f whole bytes).toNat < 256 ^ f.resultBytes := by
  have hext : ∀ {n : Nat} (x : BitVec n), n ≤ 32 → (x.setWidth 32).toNat < 2 ^ n := fun x hn => by
    rw [BitVec.toNat_setWidth_of_le hn]
    exact x.isLt
  cases f with
  | sum8 => exact hext (sum8 bytes) (by decide)
  | cs15 => exact hext (cs15 bytes) (by decide)
  | xor16 => exact hext (xor16 c whole) (by decide)
  | crc16 => exact hext (crc (c.crcParams 16) bytes) (by decide)
  | crc32 => exact (crc (c.crcParams 32) bytes).isLt

/-- Only XOR16 visits the whole frame (40_checksum_engine.md R103). -/
theorem familyValue_whole {c : ClRegs} {f : CkFamily} (h : f ≠ .xor16) (whole whole' bytes : List Byte) :
    familyValue c f whole bytes = familyValue c f whole' bytes := by
  cases f with
  | xor16 => exact absurd rfl h
  | _ => rfl

/-- The covered bytes are those of any frame that agrees on the range. -/
theorem covered_congr {c : ClRegs} {frame g : List Byte} (hlen : g.length = frame.length)
    (hlegal : c.rangeLegal frame.length = true)
    (hagree : ∀ q : Int, 0 ≤ q → absOff c.rangeFrom frame.length ≤ q →
      (if c.rangeIncl then q ≤ absOff c.rangeTo frame.length else q < absOff c.rangeTo frame.length) →
      g[q.toNat]? = frame[q.toNat]?) : c.covered g = c.covered frame := by
  have hlegal' : c.rangeLegal g.length = true := hlen ▸ hlegal
  obtain ⟨hfirst, -, -⟩ := (boundsLegal_iff _ _ _ _).1 hlegal
  have hcount := covered_length hlegal
  have hcount' := covered_length hlegal'
  rw [hlen, ← hcount, Nat.cast_inj] at hcount'
  refine List.ext_getElem? fun k => ?_
  by_cases hk : k < (c.covered frame).length
  · have hbyte := hagree (absOff c.rangeFrom frame.length + k) (by omega) (by omega)
      (by split_ifs at hcount ⊢ <;> omega)
    rwa [Int.toNat_add_nat hfirst, ← covered_getElem? hlegal hk, ← hlen,
      ← covered_getElem? hlegal' (hk.trans_eq hcount'.symm)] at hbyte
  · rw [List.getElem?_eq_none (by omega), List.getElem?_eq_none (by omega)]

theorem xor16_congr {c : ClRegs} {frame g : List Byte} (hlen : g.length = frame.length)
    (hagree : ∀ x ∈ c.usedSlices, ∀ v ∈ x.visits c.rangeIncl frame.length, g[v.1.toNat]? = frame[v.1.toNat]?) :
    xor16 c g = xor16 c frame := by
  rw [xor16, xor16, hlen]
  refine List.foldl_ext _ _ _ fun acc v hv => ?_
  obtain ⟨x, hx, hvisit⟩ := List.mem_flatMap.1 hv
  simp only [xorVisit, byteAt, List.getD_eq_getElem?_getD, hagree x hx v hvisit]

/-- Settles O33: the bytes the value is computed from are not written, and the value is read back. -/
theorem writtenChecksumVerifies : Obligations.WrittenChecksumVerifies := by
  intro c f frame hfamily hwidth hfits hgeom hslices hrange
  let v := familyValue c f frame (c.covered frame)
  have hlen := withStored_length hgeom v
  have hout : ∀ q : Int, 0 ≤ q → ¬c.inStore frame.length q → (c.withStored frame v)[q.toNat]? = frame[q.toNat]? :=
    fun q => withStored_getElem?_outside hgeom v
  have hvalue : familyValue c f (c.withStored frame v) (c.covered (c.withStored frame v)) = v := by
    obtain ⟨hrangeLegal, hslicesLegal, -, -⟩ := (ckGeom_iff c frame.length).1 hgeom
    by_cases hxor : f = .xor16
    · subst hxor
      refine congrArg (BitVec.setWidth 32) (xor16_congr hlen fun x hx visit hvisit => ?_)
      obtain ⟨-, hinside⟩ := (slice_legal_iff _ _ _).1 (hslicesLegal hfamily x hx)
      exact hout _ (hinside visit hvisit).1 (hslices rfl x hx visit hvisit)
    · have hcovered := covered_congr hlen (hrangeLegal (by simpa [hfamily] using hxor))
        fun q hq hfrom hto => hout q hq (hrange hxor q hfrom hto)
      rw [hcovered, familyValue_whole hxor _ frame]
  have hstored : c.stored (c.withStored frame v) = v :=
    stored_withStored hgeom v hwidth
      ((familyValue_lt c f _ _).trans_le (Nat.pow_le_pow_right (by decide) hfits))
  refine ⟨⟨v == v, v, v⟩, ?_, beq_self_eq_true v, rfl⟩
  change c.verify (c.withStored frame v) = _
  rw [ClRegs.verify, hlen, if_pos hgeom, value_of_family hfamily, hvalue, hstored]
  rfl

end Sys2Proof.Proofs
end

section
/-! PROOFS. Family 40_checksum_engine.md: no result, record, counter or flag depends on CRC_METHOD (R115, R122).
Every function of the configuration gives the same with the bit set either way, so every operation commutes with
setting it. -/

namespace Sys2Proof.Proofs

open Sys2Proof Sys2Proof.Machine

/-! ## The configuration with CRC_METHOD set -/

section
variable (c : ClRegs) (m : Bool)

theorem withMethod_getLsbD {k : Nat} (hk : k ≠ 12) :
    (c.withMethod m).ckCfg.getLsbD k = c.ckCfg.getLsbD k := by
  have hbit : (0x00001000 : Word) = BitVec.twoPow 32 12 := rfl
  have hmask : (0xFFFFEFFF : Word) = ~~~BitVec.twoPow 32 12 := rfl
  by_cases hlt : k < 32
  · cases m <;> simp [ClRegs.withMethod, hbit, hmask, hk, hlt]
  · rw [BitVec.getLsbD_of_ge _ _ (by omega), BitVec.getLsbD_of_ge _ _ (by omega)]

theorem withMethod_field {start len : Nat} (h : start + len ≤ 12 ∨ 12 < start) :
    (c.withMethod m).ckCfg.extractLsb' start len = c.ckCfg.extractLsb' start len := by
  refine BitVec.eq_of_getLsbD_eq fun i hi => ?_
  rw [BitVec.getLsbD_extractLsb', BitVec.getLsbD_extractLsb', withMethod_getLsbD c m (by omega)]

@[simp] theorem withMethod_family : (c.withMethod m).family = c.family :=
  congrArg ckFamilyOf (withMethod_field c m (by decide))

@[simp] theorem withMethod_rangeIncl : (c.withMethod m).rangeIncl = c.rangeIncl := withMethod_getLsbD c m (by decide)

@[simp] theorem withMethod_storeWidth : (c.withMethod m).storeWidth = c.storeWidth :=
  withMethod_field c m (by decide)

@[simp] theorem withMethod_sw : (c.withMethod m).sw = c.sw := congrArg widthBytes (withMethod_storeWidth c m)

@[simp] theorem withMethod_storeBe : (c.withMethod m).storeBe = c.storeBe := withMethod_getLsbD c m (by decide)

@[simp] theorem withMethod_usedSlices : (c.withMethod m).usedSlices = c.usedSlices :=
  congrArg (fun field : BitVec 4 => c.xs.toList.take field.toNat) (withMethod_field c m (by decide))

@[simp] theorem withMethod_xsCount : (c.withMethod m).xsCount = c.xsCount :=
  congrArg BitVec.toNat (withMethod_field c m (by decide))

theorem withMethod_crcParams (w : Nat) :
    (c.withMethod m).crcParams w = { c.crcParams w with byTable := (c.withMethod m).crcByTable } := by
  have hrefin : (c.withMethod m).refin = c.refin := withMethod_getLsbD c m (by decide)
  have hrefout : (c.withMethod m).refout = c.refout := withMethod_getLsbD c m (by decide)
  rw [ClRegs.crcParams, hrefin, hrefout]
  rfl

/-! ## The engine -/

@[simp] theorem withMethod_slicesLegal (n : Nat) : (c.withMethod m).slicesLegal n = c.slicesLegal n := by
  simp only [ClRegs.slicesLegal, withMethod_usedSlices, withMethod_rangeIncl]

@[simp] theorem withMethod_ckGeom (n : Nat) : (c.withMethod m).ckGeom n = c.ckGeom n := by
  simp only [ClRegs.ckGeom, ClRegs.rangeLegal, withMethod_family, withMethod_slicesLegal, withMethod_rangeIncl,
    withMethod_sw]
  rfl

@[simp] theorem withMethod_covered (frame : List Byte) : (c.withMethod m).covered frame = c.covered frame := by
  simp only [ClRegs.covered, withMethod_rangeIncl]
  rfl

@[simp] theorem withMethod_stored (frame : List Byte) : (c.withMethod m).stored frame = c.stored frame := by
  simp only [ClRegs.stored, withMethod_storeBe, withMethod_sw]
  rfl

/-- The two realisations of the CRC give the same value (40_checksum_engine.md R115). -/
@[simp] theorem withMethod_familyValue (f : CkFamily) (whole bytes : List Byte) :
    familyValue (c.withMethod m) f whole bytes = familyValue c f whole bytes := by
  cases f with
  | sum8 | cs15 => rfl
  | xor16 => simp only [familyValue, xor16, withMethod_usedSlices, withMethod_rangeIncl]
  | crc16 | crc32 =>
    simp only [familyValue]
    rw [withMethod_crcParams, crc_byTable (by decide)]

@[simp] theorem withMethod_valueSpan (span : List Byte) : (c.withMethod m).valueSpan span = c.valueSpan span := by
  simp only [ClRegs.valueSpan, withMethod_family, withMethod_familyValue]

@[simp] theorem withMethod_verify (frame : List Byte) : (c.withMethod m).verify frame = c.verify frame := by
  simp only [ClRegs.verify, ClRegs.value, withMethod_ckGeom, withMethod_family, withMethod_covered,
    withMethod_familyValue, withMethod_stored]

@[simp] theorem withMethod_crcTableWords : (c.withMethod m).crcTableWords = c.crcTableWords := by
  simp only [ClRegs.crcTableWords, withMethod_family]
  rfl

/-! ## Lengths and ARM's checks -/

@[simp] theorem withMethod_resolve (pend : List Byte) : (c.withMethod m).resolve pend = c.resolve pend := by
  simp only [ClRegs.resolve, ClRegs.checkLength, withMethod_ckGeom]
  rfl

@[simp] theorem withMethod_armError (hw : HwParams) : armError hw (c.withMethod m) = armError hw c := by
  simp only [armError, typeUnsupported, storeBad, slicesBad, geometryBad, withMethod_family, withMethod_storeWidth,
    withMethod_sw, withMethod_xsCount, withMethod_usedSlices, withMethod_ckGeom]
  rfl

end

/-! ## Operations that commute with setting CRC_METHOD -/

/-- The state with CRC_METHOD set to `m` in its configuration. -/
abbrev setMethod (m : Bool) (s : State) : State := { s with cfg := s.cfg.withMethod m }

/-- The pass with its state changed. -/
def passMap (f : State → State) : Pass → Pass
  | .rest s => .rest (f s)
  | .again s => .again (f s)
  | .stuck e => .stuck e

section
variable (m : Bool) (s : State)

theorem emit_setMethod (ws : List Word) : emit ws (setMethod m s) = setMethod m (emit ws s) := by
  simp only [emit, apply_ite (setMethod m)]
  rfl

theorem emitFrame_setMethod (n : Nat) : emitFrame n (setMethod m s) = setMethod m (emitFrame n s) := by
  simp only [emitFrame, emit_setMethod]
  rfl

theorem resync_setMethod : resync (setMethod m s) = setMethod m (resync s) := rfl

theorem windowGuard_setMethod : windowGuard (setMethod m s) = setMethod m (windowGuard s) := by
  simp only [windowGuard, apply_ite (setMethod m)]
  rfl

theorem flushRemainder_setMethod : flushRemainder (setMethod m s) = setMethod m (flushRemainder s) := by
  simp only [flushRemainder, apply_ite (setMethod m)]
  rfl

theorem ckPushByte_setMethod (b : Byte) : ckPushByte b (setMethod m s) = setMethod m (ckPushByte b s) := by
  simp only [ckPushByte, apply_ite (setMethod m)]
  rfl

theorem armSession_setMethod : armSession (setMethod m s) = setMethod m (armSession s) := by
  simp only [armSession, withMethod_crcTableWords]
  rfl

theorem ckComputeSpan_setMethod : ckComputeSpan (setMethod m s) = (ckComputeSpan s).map (setMethod m) := by
  simp only [ckComputeSpan, withMethod_family, withMethod_slicesLegal, withMethod_valueSpan]
  split_ifs
  · rfl
  · cases s.cfg.valueSpan s.span <;> rfl

theorem ckVerifySpan_setMethod : ckVerifySpan (setMethod m s) = (ckVerifySpan s).map (setMethod m) := by
  simp only [ckVerifySpan, withMethod_ckGeom, withMethod_verify]
  split_ifs
  · rfl
  · cases s.cfg.verify s.span <;> rfl

/-! ## The synchronizer -/

theorem passSeeking_setMethod : passSeeking (setMethod m s) = passMap (setMethod m) (passSeeking s) := by
  have hhdr : (s.cfg.withMethod m).hdr = s.cfg.hdr := rfl
  simp only [passSeeking, hhdr, windowGuard_setMethod]
  cases firstMatch s.cfg.hdr s.pend <;> rfl

theorem passLength_setMethod : passLength (setMethod m s) = passMap (setMethod m) (passLength s) := by
  simp only [passLength, withMethod_resolve, emit_setMethod, resync_setMethod]
  cases s.cfg.resolve s.pend <;> rfl

theorem passBody_setMethod : passBody (setMethod m s) = passMap (setMethod m) (passBody s) := by
  simp only [passBody, withMethod_verify, emit_setMethod, resync_setMethod, emitFrame_setMethod]
  split_ifs
  · rfl
  · cases s.cfg.verify (s.pend.take s.candLen) with
    | none => rfl
    | some v =>
      simp only [apply_ite (passMap (setMethod m))]
      rfl

theorem pass_setMethod : Machine.pass (setMethod m s) = passMap (setMethod m) (Machine.pass s) := by
  simp only [Machine.pass]
  cases s.fsm
  case seekingHeader => exact passSeeking_setMethod m s
  case lengthPending => exact passLength_setMethod m s
  case bodyPending => exact passBody_setMethod m s

theorem runFuel_setMethod (n : Nat) : runFuel n (setMethod m s) = (runFuel n s).map (setMethod m) := by
  induction n generalizing s with
  | zero => rfl
  | succ n ih =>
    simp only [runFuel, pass_setMethod]
    cases Machine.pass s with
    | again t => exact ih t
    | _ => rfl

theorem pushByte_setMethod (b : Byte) : pushByte b (setMethod m s) = (pushByte b s).map (setMethod m) := by
  simp only [pushByte, apply_ite (Except.map (setMethod m))]
  congr 1
  exact runFuel_setMethod m { s with pend := s.pend ++ [b] } _

theorem pushBytes_setMethod (bytes : List Byte) :
    pushBytes bytes (setMethod m s) = (pushBytes bytes s).map (setMethod m) := by
  induction bytes generalizing s with
  | nil => rfl
  | cons b bytes ih =>
    simp only [pushBytes, pushByte_setMethod]
    cases pushByte b s with
    | ok t => exact ih t
    | error f => rfl

theorem flushLoop_setMethod (n : Nat) : flushLoop n (setMethod m s) = (flushLoop n s).map (setMethod m) := by
  induction n generalizing s with
  | zero =>
    simp only [flushLoop, apply_ite (Except.map (setMethod m))]
    rfl
  | succ n ih =>
    have hrun : ∀ t, run (setMethod m t) = (run t).map (setMethod m) := fun t => runFuel_setMethod m t _
    simp only [flushLoop, emit_setMethod, resync_setMethod, hrun]
    split_ifs
    · rfl
    · cases run (resync (emit (truncatedRecord s.pend.length) s)) with
      | ok t => exact ih t
      | error f => rfl

theorem flush_setMethod : flush (setMethod m s) = (flush s).map (setMethod m) := by
  simp only [flush, flushLoop_setMethod]
  cases flushLoop s.pend.length s with
  | ok t => exact congrArg Except.ok (flushRemainder_setMethod m t)
  | error f => rfl

end

/-! ## Instructions -/

/-- A meaning that does the same whatever CRC_METHOD is. -/
def MethodBlind (m : Bool) (f : State → Host.Outcome State Fault Refusal) : Prop :=
  ∀ s t, f s = .next t → f (setMethod m s) = .next (setMethod m t)

section
variable {m : Bool}

theorem methodBlind_next {f : State → State} (h : ∀ s, f (setMethod m s) = setMethod m (f s)) :
    MethodBlind m fun s => .next (f s) := by
  rintro s t ⟨⟩
  exact congrArg Host.Outcome.next (h s)

theorem methodBlind_toOutcome {f : State → Except Fault State}
    (h : ∀ s, f (setMethod m s) = (f s).map (setMethod m)) : MethodBlind m fun s => toOutcome (f s) := by
  intro s t hs
  rw [toOutcome_eq_next] at hs ⊢
  rw [h, hs]
  rfl

theorem methodBlind_whenArmed {f : State → Except Fault State}
    (h : ∀ s, f (setMethod m s) = (f s).map (setMethod m)) : MethodBlind m fun s => toOutcome (whenArmed s f) := by
  refine methodBlind_toOutcome fun s => ?_
  simp only [whenArmed, h, apply_ite (Except.map (setMethod m))]
  rfl

theorem methodBlind_arm (ign : BitVec 28) : MethodBlind m (execArm ign) := by
  intro s t hs
  rcases execArm_cases hs with ⟨hm, rfl⟩ | ⟨hm, e, he, rfl⟩ | ⟨hm, he, rfl⟩
  · exact if_pos hm
  · rw [execArm, if_neg hm, withMethod_armError, he]
    rfl
  · rw [execArm, if_neg hm, withMethod_armError, he, ← armSession_setMethod]

theorem methodBlind_outPop : MethodBlind m execOutPop := by
  intro s t hs
  rcases execOutPop_cases hs with ⟨hout, rfl⟩ | ⟨v, rest, hout, rfl⟩
  · simp only [execOutPop, hout]
    rfl
  · simp only [execOutPop, hout]
    rfl

theorem methodBlind_ckInit (ign : BitVec 28) : MethodBlind m (execCkInit ign) :=
  methodBlind_next fun s => by
    simp only [apply_ite (setMethod m)]
    rfl

end

/-- Settles O31: each of the instructions reads CRC_METHOD at most through the CRC, whose two realisations agree. -/
theorem crcMethodUnobservable : Obligations.CrcMethodUnobservable := by
  intro s t m data ign i hi
  suffices hblind : MethodBlind m (exec i) from hblind s t
  have hck := ckPushByte_setMethod m
  have hread : ∀ value : State → Word, (∀ s, value (setMethod m s) = value s) →
      MethodBlind m fun s => .next (readReturns (value s) s) :=
    fun value hvalue => methodBlind_next fun s => by rw [hvalue]; rfl
  fin_cases hi
  exacts [methodBlind_toOutcome fun s => pushByte_setMethod m s _,
    methodBlind_toOutcome fun s => pushBytes_setMethod m s _,
    methodBlind_whenArmed (flush_setMethod m),
    methodBlind_next fun s => hck s _,
    methodBlind_next fun s => by simp only [hck],
    methodBlind_ckInit ign,
    methodBlind_whenArmed (ckComputeSpan_setMethod m),
    methodBlind_whenArmed (ckVerifySpan_setMethod m),
    methodBlind_arm ign,
    methodBlind_next fun s => rfl,
    methodBlind_outPop,
    hread statusWord fun s => rfl,
    hread (·.ckResult) fun s => rfl,
    hread (·.ckStored) fun s => rfl]

end Sys2Proof.Proofs
end

section
/-! PROOFS. Family 41_length_resolver.md: the length field as an integer (R143) and the resolver's answers (R141, R142,
R144, R145). -/

namespace Sys2Proof.Proofs

open Sys2Proof Sys2Proof.Machine

/-! ## Reading a field of a byte sequence -/

theorem field_getD (s : List Byte) (off : Nat) {w i : Nat} (hi : i < w) :
    ((s.drop off).take w).getD i 0 = s.getD (off + i) 0 := by
  rw [List.getD_eq_getElem?_getD, List.getElem?_take_of_lt hi, List.getElem?_drop, ← List.getD_eq_getElem?_getD]

section
variable {s : List Byte} {off w : Nat} (hlen : off + w ≤ s.length)
include hlen

theorem field_length : ((s.drop off).take w).length = w := by
  rw [List.length_take, List.length_drop]
  omega

theorem readLE_eq_sum : readLE s off w = ∑ i ∈ Finset.range w, (s.getD (off + i) 0).toNat * 256 ^ i := by
  rw [readLE, leNat_eq_sum, field_length hlen]
  exact Finset.sum_congr rfl fun i hi => by rw [field_getD s off (Finset.mem_range.1 hi)]

theorem readBE_eq_sum :
    readBE s off w = ∑ i ∈ Finset.range w, (s.getD (off + i) 0).toNat * 256 ^ (w - 1 - i) := by
  rw [readBE, leNat_reverse_eq_sum, field_length hlen]
  exact Finset.sum_congr rfl fun i hi => by rw [field_getD s off (Finset.mem_range.1 hi)]

end

/-! ## The length field -/

/-- The length field in either byte order (41_length_resolver.md R143). -/
theorem lenRaw_eq_sum {c : ClRegs} {pend : List Byte} (hlen : c.lenOff + c.lw ≤ pend.length) :
    c.lenRaw pend = ∑ i ∈ Finset.range c.lw,
      (pend.getD (c.lenOff + i) 0).toNat * (if c.lenBe then 256 ^ (c.lw - 1 - i) else 256 ^ i) := by
  rw [ClRegs.lenRaw, readBE_eq_sum hlen, readLE_eq_sum hlen]
  cases c.lenBe <;> rfl

theorem lenRaw_lt (c : ClRegs) (pend : List Byte) : c.lenRaw pend < 256 ^ c.lw := by
  have hfield : ((pend.drop c.lenOff).take c.lw).length ≤ c.lw := List.length_take_le _ _
  have hlt : ∀ bs : List Byte, bs.length ≤ c.lw → leNat bs < 256 ^ c.lw := fun bs hbs =>
    (leNat_lt bs).trans_le (Nat.pow_le_pow_right (by decide) hbs)
  rw [ClRegs.lenRaw]
  split
  · exact hlt _ (by rwa [List.length_reverse])
  · exact hlt _ hfield

/-- A number of w bytes as two's complement. -/
theorem toInt_ofNat_bytes {w n : Nat} (hn : n < 256 ^ w) :
    (BitVec.ofNat (8 * w) n).toInt = if 256 ^ w ≤ 2 * n then (n : Int) - 256 ^ w else n := by
  have hpow : 2 ^ (8 * w) = 256 ^ w := by rw [pow_mul]; rfl
  rw [BitVec.toInt_eq_toNat_cond, BitVec.toNat_ofNat, hpow, Nat.mod_eq_of_lt hn, ← ite_not]
  exact if_congr not_lt (by rw [Nat.cast_pow, Nat.cast_ofNat]) rfl

theorem lenValue_eq (c : ClRegs) (pend : List Byte) : c.lenValue pend =
    if c.lenSigned = true ∧ 256 ^ c.lw ≤ 2 * c.lenRaw pend then (c.lenRaw pend : Int) - 256 ^ c.lw
    else c.lenRaw pend := by
  rw [ClRegs.lenValue, toInt_ofNat_bytes (lenRaw_lt c pend), ite_and]

/-! ## The answers -/

theorem resolve_of_fixed {c : ClRegs} (h : c.dynamic = false) (pend : List Byte) :
    c.resolve pend = .ok c.fixedLength := by
  rw [ClRegs.resolve, h]
  rfl

theorem resolve_of_short {c : ClRegs} {pend : List Byte} (h : c.dynamic = true)
    (hlen : pend.length < c.lenOff + c.lw) : c.resolve pend = .need := by
  rw [ClRegs.resolve, if_pos h, if_pos hlen]

/-- Once the field is there, the answer is that of the checks. -/
theorem resolve_of_field {c : ClRegs} {pend : List Byte} (h : c.dynamic = true)
    (hlen : c.lenOff + c.lw ≤ pend.length) :
    c.resolve pend = c.checkLength (c.lenTotal pend) (BitVec.ofNat 32 (c.lenRaw pend)) := by
  rw [ClRegs.resolve, if_pos h, if_neg hlen.not_gt]

/-- Settles O37: the number the field denotes is the byte sum, and the checks are made on its total. -/
theorem lengthResolution : Obligations.LengthResolution := by
  refine fun c pend => ⟨fun h => resolve_of_fixed h pend, resolve_of_short, ?_⟩
  intro raw v total hdynamic hlen _ hraw hv htotal
  obtain rfl : raw = c.lenRaw pend := hraw.trans (lenRaw_eq_sum hlen).symm
  obtain rfl : v = c.lenValue pend := hv.trans (lenValue_eq c pend).symm
  obtain rfl : total = c.lenTotal pend := htotal
  exact resolve_of_field hdynamic hlen

end Sys2Proof.Proofs
end

section
/-! PROOFS. Family 42_frame_synchronizer.md: what each pass of `Run()` does (R163, R167-R174), that `Run()` has one
result, the pushes that end after a pass or two (R167, R171-R174, R176), the bound on Pend (R186) and the worked
sequence (R187). -/

namespace Sys2Proof.Proofs

open Sys2Proof Sys2Proof.Machine

/-! ## One pass, by the state it starts in -/

section
variable {s : State}

theorem windowGuard_of_le (hle : s.pend.length ≤ s.cfg.window) : windowGuard s = s := if_neg (Nat.not_lt.2 hle)

theorem windowGuard_of_excess {k : Nat} (hk : s.pend.length = s.cfg.window + k) (hpos : 0 < k) :
    windowGuard s = discardTo (s.pend.drop k) k s := by
  simp [windowGuard, hk, hpos]

theorem pass_of_noMatch (hfsm : s.fsm = .seekingHeader) (hno : ∀ p, ¬Matches s.cfg.hdr s.pend p) :
    Machine.pass s = .rest (windowGuard s) := by
  simp only [Machine.pass, hfsm, passSeeking, (firstMatch_eq_none_iff _ _).2 hno]

theorem pass_of_leastMatch {p : Nat} (hfsm : s.fsm = .seekingHeader) (hmatch : Matches s.cfg.hdr s.pend p)
    (hleast : ∀ q, q < p → ¬Matches s.cfg.hdr s.pend q) :
    Machine.pass s = .again { s with pend := s.pend.drop p, fsm := .lengthPending } := by
  simp only [Machine.pass, hfsm, passSeeking, (firstMatch_eq_some_iff _ _ _).2 ⟨hmatch, hleast⟩]

theorem pass_of_lengthNeed (hfsm : s.fsm = .lengthPending) (hlen : s.cfg.resolve s.pend = .need) :
    Machine.pass s = .rest s := by
  simp only [Machine.pass, hfsm, passLength, hlen]

theorem pass_of_lengthOk {len : Nat} (hfsm : s.fsm = .lengthPending) (hlen : s.cfg.resolve s.pend = .ok len) :
    Machine.pass s = .again { s with candLen := len, fsm := .bodyPending } := by
  simp only [Machine.pass, hfsm, passLength, hlen]

theorem pass_of_lengthInvalid {r : LenReason} {raw : Word} (hfsm : s.fsm = .lengthPending)
    (hlen : s.cfg.resolve s.pend = .invalid r raw) :
    Machine.pass s = .again (resync (emit (lenInvalidRecord r raw) s)) := by
  simp only [Machine.pass, hfsm, passLength, hlen]

theorem pass_of_incomplete (hfsm : s.fsm = .bodyPending) (hshort : s.pend.length < s.candLen) :
    Machine.pass s = .rest s := by
  simp only [Machine.pass, hfsm, passBody, if_pos hshort]

/-- A complete candidate is emitted or reported as a mismatch (42_frame_synchronizer.md R172). -/
theorem pass_of_complete {v : Verdict} (hfsm : s.fsm = .bodyPending) (hfull : s.candLen ≤ s.pend.length)
    (hverify : s.cfg.verify (s.pend.take s.candLen) = some v) :
    Machine.pass s = .again (if v.ok then emitFrame s.candLen s
      else resync (emit (mismatchRecord s.candLen v.computed v.stored) s)) := by
  simp only [Machine.pass, hfsm, passBody, if_neg (Nat.not_lt.2 hfull), hverify, apply_ite Pass.again]

/-- The candidate is the whole of Pend. -/
theorem pass_of_whole {v : Verdict} (hfsm : s.fsm = .bodyPending) (hlen : s.pend.length = s.candLen)
    (hverify : s.cfg.verify s.pend = some v) :
    Machine.pass s = .again (if v.ok then emitFrame s.candLen s
      else resync (emit (mismatchRecord s.candLen v.computed v.stored) s)) :=
  pass_of_complete hfsm hlen.ge (by rwa [List.take_of_length_le hlen.le])

/-- With nothing in Pend the loop returns, because no header is empty. -/
theorem pass_of_pend_nil (hfsm : s.fsm = .seekingHeader) (hhdr : 1 ≤ s.cfg.hdr.length) (hpend : s.pend = []) :
    Machine.pass s = .rest s := by
  have hno : ∀ p, ¬Matches s.cfg.hdr s.pend p := fun p hmatch => by
    have hpos := hmatch.pend_pos hhdr
    simp [hpend] at hpos
  rw [pass_of_noMatch hfsm hno, windowGuard_of_le (by simp [hpend])]

/-! ## The loop, by its first pass -/

variable {t u : State}

theorem runFuel_of_rest (hpass : Machine.pass s = .rest t) (n : Nat) : runFuel (n + 1) s = .ok t := by
  simp only [runFuel, hpass]

theorem runFuel_of_again (hpass : Machine.pass s = .again u) (n : Nat) : runFuel (n + 1) s = runFuel n u := by
  simp only [runFuel, hpass]

theorem run_of_rest (hpass : Machine.pass s = .rest t) : run s = .ok t := runFuel_of_rest hpass _

/-- `Run()` goes on from where its first pass leads. -/
theorem run_of_again (hrunning : Running s) (hpass : Machine.pass s = .again u) :
    ∃ t, run s = .ok t ∧ RunsTo u t := by
  obtain ⟨hrunning', -, hdecreases, -⟩ := pass_again hrunning hpass
  have hrank : s.fsm.rank ≤ 2 := by cases s.fsm <;> decide
  obtain ⟨t, ht, -, -, -, hto⟩ := runFuel_returns (3 * s.pend.length + 2) u hrunning' (by
    unfold runMeasure at hdecreases ⊢
    omega)
  exact ⟨t, (runFuel_of_again hpass _).trans ht, hto⟩

/-! ## `Run()` has one result -/

/-- Where the relation leads, the loop returns, once it may take enough passes. -/
theorem runFuel_of_runsTo (h : RunsTo s t) : ∃ n, runFuel n s = .ok t := by
  have hstep : ∀ {s u t}, Machine.pass s = .again u → (∃ n, runFuel n u = .ok t) → ∃ n, runFuel n s = .ok t :=
    fun hpass ⟨n, hn⟩ => ⟨n + 1, (runFuel_of_again hpass n).trans hn⟩
  induction h with
  | seekKeep s hfsm hno hle =>
    exact ⟨1, runFuel_of_rest ((pass_of_noMatch hfsm hno).trans (by rw [windowGuard_of_le hle])) 0⟩
  | seekGuard s hfsm hno k hk hpos =>
    exact ⟨1, runFuel_of_rest ((pass_of_noMatch hfsm hno).trans (by rw [windowGuard_of_excess hk hpos]; rfl)) 0⟩
  | seekFound s t p hfsm hmatch hleast _ ih => exact hstep (pass_of_leastMatch hfsm hmatch hleast) ih
  | lengthNeed s hfsm hlen => exact ⟨1, runFuel_of_rest (pass_of_lengthNeed hfsm hlen) 0⟩
  | lengthOk s t len hfsm hlen _ ih => exact hstep (pass_of_lengthOk hfsm hlen) ih
  | lengthInvalid s t r raw hfsm hlen _ ih => exact hstep (pass_of_lengthInvalid hfsm hlen) ih
  | bodyNeed s hfsm hshort => exact ⟨1, runFuel_of_rest (pass_of_incomplete hfsm hshort) 0⟩
  | bodyEmit s t v hfsm hfull hverify hok _ ih =>
    exact hstep (by rw [pass_of_complete hfsm hfull hverify, if_pos hok]) ih
  | bodyMismatch s t v hfsm hfull hverify hok _ ih =>
    exact hstep (by rw [pass_of_complete hfsm hfull hverify, if_neg (by simp [hok])]) ih

theorem runFuel_unique {n m : Nat} (ht : runFuel n s = .ok t) (hu : runFuel m s = .ok u) : t = u := by
  induction n generalizing m s with
  | zero => cases ht
  | succ n ih =>
    cases m with
    | zero => cases hu
    | succ m =>
      unfold runFuel at ht hu
      cases hpass : Machine.pass s with
      | rest v => simp_all
      | again v =>
        rw [hpass] at ht hu
        exact ih ht hu
      | stuck f => simp [hpass] at ht

end

/-- Settles O40: the loop computes what the relation says, and a loop that returns does so whatever its bound. -/
theorem runHasOneResult : Obligations.RunHasOneResult := by
  intro s t u ht hu
  obtain ⟨n, hn⟩ := runFuel_of_runsTo ht
  obtain ⟨m, hm⟩ := runFuel_of_runsTo hu
  exact runFuel_unique hn hm

/-! ## Pushes -/

/-- The state in which `Run()` starts on pushed bytes (44_bus_operations.md R234). -/
abbrev appended (bytes : List Byte) (s : State) : State := { s with pend := s.pend ++ bytes }

section
variable {s : State}

theorem lane_zero (data : Word) : lane data 0 = data.setWidth 8 :=
  BitVec.eq_of_toNat_eq (by simp [lane])

theorem exec_data8 (data : Word) (s : State) :
    exec (.data8 data) s = toOutcome (pushByte (data.setWidth 8) s) :=
  congrArg (fun b => toOutcome (pushByte b s)) (lane_zero data)

theorem pushByte_of_armed (harmed : s.mode = .armed) (b : Byte) :
    pushByte b s = run (appended [b] s) := if_pos harmed

/-- With no header in sight the push ends with the window guard (42_frame_synchronizer.md R167, R176). -/
theorem pushByte_of_noMatch (harmed : s.mode = .armed) (hfsm : s.fsm = .seekingHeader) {b : Byte}
    (hno : ∀ p, ¬Matches s.cfg.hdr (s.pend ++ [b]) p) :
    pushByte b s = .ok (windowGuard (appended [b] s)) :=
  (pushByte_of_armed harmed b).trans (run_of_rest (pass_of_noMatch hfsm hno))

/-- The last byte of a candidate that verifies: after EMIT nothing is left to scan (42_frame_synchronizer.md R173). -/
theorem pushByte_of_verified (harmed : s.mode = .armed) (hfsm : s.fsm = .bodyPending) (hhdr : 1 ≤ s.cfg.hdr.length)
    {b : Byte} (hlen : (s.pend ++ [b]).length = s.candLen) {v : Verdict}
    (hverify : s.cfg.verify (s.pend ++ [b]) = some v) (hok : v.ok = true) :
    pushByte b s = .ok (emitFrame s.candLen (appended [b] s)) := by
  set p := appended [b] s
  have hemit : Machine.pass p = .again (emitFrame p.candLen p) :=
    (pass_of_whole (s := p) hfsm hlen hverify).trans (by rw [if_pos hok])
  have hrest : Machine.pass (emitFrame p.candLen p) = .rest (emitFrame p.candLen p) :=
    pass_of_pend_nil rfl (by rwa [emitFrame_cfg]) (List.drop_of_length_le hlen.le)
  rw [pushByte_of_armed harmed]
  exact (runFuel_of_again hemit _).trans (runFuel_of_rest hrest _)

/-- The last byte of a candidate that fails: after RESYNC the scan goes on (42_frame_synchronizer.md R172, R174). -/
theorem pushByte_of_mismatch (harmed : s.mode = .armed) (hfsm : s.fsm = .bodyPending) (h : Inv s) {b : Byte}
    (hlen : (s.pend ++ [b]).length = s.candLen) {v : Verdict} (hverify : s.cfg.verify (s.pend ++ [b]) = some v)
    (hbad : v.ok = false) :
    ∃ t, pushByte b s = .ok t ∧
      RunsTo (resync (emit (mismatchRecord s.candLen v.computed v.stored) (appended [b] s))) t := by
  set p := appended [b] s
  have hreport : Machine.pass p = .again (resync (emit (mismatchRecord p.candLen v.computed v.stored) p)) :=
    (pass_of_whole (s := p) hfsm hlen hverify).trans (by rw [if_neg (by simp [hbad])])
  rw [pushByte_of_armed harmed]
  exact run_of_again ((h.resting harmed).running_push (configFacts h harmed) [b]) hreport

end

/-- The outcome of EMIT, by whether the record fits (42_frame_synchronizer.md R173, R181). -/
theorem emitFrame_eq_ite (n : Nat) (s : State) : emitFrame n s =
    if (frameRecord (s.pend.take n)).length ≤ s.hw.outDepth - s.out.length then
      { s with pend := s.pend.drop n, fsm := .seekingHeader, out := s.out ++ frameRecord (s.pend.take n),
               cntFrames := s.cntFrames + 1, irqStatus := s.irqStatus ||| 0x01 }
    else
      { s with pend := s.pend.drop n, fsm := .seekingHeader, cntDropped := s.cntDropped + 1,
               cntFrames := s.cntFrames + 1, irqStatus := s.irqStatus ||| 0x08 ||| 0x01 } := by
  unfold emitFrame emit
  split <;> rfl

/-- The outcome of a record and RESYNC, by whether the record fits (42_frame_synchronizer.md R174, R181). -/
theorem resync_emit_eq_ite (ws : List Word) (s : State) : resync (emit ws s) =
    if ws.length ≤ s.hw.outDepth - s.out.length then
      { s with pend := s.pend.drop 1, fsm := .seekingHeader, cntResync := s.cntResync + 1, out := s.out ++ ws,
               irqStatus := s.irqStatus ||| 0x02 }
    else
      { s with pend := s.pend.drop 1, fsm := .seekingHeader, cntResync := s.cntResync + 1,
               cntDropped := s.cntDropped + 1, irqStatus := s.irqStatus ||| 0x08 ||| 0x02 } := by
  unfold emit
  split <;> rfl

/-- Settles O41: the one pass ends with the window guard, whose two cases are the statement's. -/
theorem noiseByteAndWindowGuard : Obligations.NoiseByteAndWindowGuard := by
  intro s data pend harmed hfsm hpend hno
  subst hpend
  rw [exec_data8, pushByte_of_noMatch harmed hfsm hno, windowGuard, ← ite_not]
  simp only [Nat.not_lt, apply_ite Except.ok, apply_ite toOutcome, apply_ite Host.Outcome.next]
  rfl

/-- Settles O42: one pass while the candidate is incomplete, EMIT and a pass over an empty Pend when it is whole. -/
theorem lastByteEmitsValidFrame : Obligations.LastByteEmitsValidFrame := by
  intro s data frame harmed hfsm hframe
  subst hframe
  constructor
  · intro hshort
    have hwait := run_of_rest (pass_of_incomplete (s := appended [data.setWidth 8] s) hfsm hshort)
    rw [exec_data8, pushByte_of_armed harmed, hwait]
    rfl
  · rintro h hlen ⟨v, hverify, hok⟩
    rw [exec_data8, pushByte_of_verified harmed hfsm (configFacts h harmed).hdr_pos hlen hverify hok,
      emitFrame_eq_ite, List.take_of_length_le hlen.le, List.drop_of_length_le hlen.le]
    rfl

/-- Settles O43: the first pass reports the mismatch and drops a byte, and `Run()` goes on from there. -/
theorem lastByteResyncsFailedFrame : Obligations.LastByteResyncsFailedFrame := by
  intro s data frame v h harmed hfsm hframe hlen hverify hbad
  subst hframe
  obtain ⟨t, hpush, hto⟩ := pushByte_of_mismatch harmed hfsm h hlen hverify hbad
  rw [resync_emit_eq_ite] at hto
  exact ⟨t, by rw [exec_data8, hpush]; rfl, hto⟩

/-- Settles O57, by the place the block rests in: W, OFFSET + LW and CandLen bound Pend there, and ARM bounds them. -/
theorem pendIsBounded : Obligations.PendIsBounded := by
  refine fun s h => ⟨fun harmed => ?_, fun hunarmed => (h.unarmed hunarmed).2.1⟩
  have hconfig := configFacts h harmed
  have hmaxLen := hconfig.maxLen.2
  cases hfsm : s.fsm with
  | seekingHeader =>
    have hpend := ((h.resting harmed).seeking hfsm).1
    have hwindow := hconfig.window.2
    omega
  | lengthPending =>
    obtain ⟨hdynamic, -, hpend⟩ := (h.resting harmed).lengthPending hfsm
    have hfield := hconfig.dynamic hdynamic
    omega
  | bodyPending =>
    obtain ⟨-, hpend, -, hcand, -⟩ := (h.resting harmed).bodyPending hfsm
    omega

/-- Settles O48: a run of the model on fixed bytes. -/
theorem workedSequence : Obligations.WorkedSequence := by
  unfold Obligations.WorkedSequence
  decide

end Sys2Proof.Proofs
end

section
/-! PROOFS. Family 42_frame_synchronizer.md: no meaning reads or writes the queue of the host's further events, so a run
is its accesses delivered one after the other (log entry 1), and how bytes are grouped into accesses changes nothing
(R183). -/

namespace Sys2Proof.Proofs

open Sys2Proof Sys2Proof.Machine

/-! ## Outcomes in sequence -/

/-- Go on from the next state, if there is one. -/
def andThen (o : Host.Outcome State Fault Refusal) (m : State → Host.Outcome State Fault Refusal) :
    Host.Outcome State Fault Refusal :=
  match o with
  | .next s => m s
  | .fault f => .fault f
  | .refused r => .refused r

/-- The outcome with its state changed. -/
abbrev mapNext (f : State → State) (o : Host.Outcome State Fault Refusal) : Host.Outcome State Fault Refusal :=
  andThen o fun s => .next (f s)

theorem andThen_next (o : Host.Outcome State Fault Refusal) : andThen o .next = o := by cases o <;> rfl

theorem andThen_assoc (o : Host.Outcome State Fault Refusal) (m m' : State → Host.Outcome State Fault Refusal) :
    andThen (andThen o m) m' = andThen o fun s => andThen (m s) m' := by
  cases o <;> rfl

/-! ## Operations that commute with a change of the queue -/

/-- The state with another queue. -/
abbrev withHost (host : List HostEvent) (s : State) : State := { s with host := host }

section
variable (host : List HostEvent) (s : State)

theorem emit_withHost (ws : List Word) : emit ws (withHost host s) = withHost host (emit ws s) := by
  simp only [emit, apply_ite (withHost host)]
  rfl

theorem emitFrame_withHost (n : Nat) : emitFrame n (withHost host s) = withHost host (emitFrame n s) := by
  simp only [emitFrame, emit_withHost]
  rfl

theorem resync_withHost : resync (withHost host s) = withHost host (resync s) := rfl

theorem windowGuard_withHost : windowGuard (withHost host s) = withHost host (windowGuard s) := by
  simp only [windowGuard, apply_ite (withHost host)]
  rfl

theorem flushRemainder_withHost : flushRemainder (withHost host s) = withHost host (flushRemainder s) := by
  simp only [flushRemainder, apply_ite (withHost host)]
  rfl

theorem writeCl_withHost (r : ClReg) (data : Word) :
    writeCl r data (withHost host s) = withHost host (writeCl r data s) := by
  simp only [writeCl, apply_ite (withHost host)]
  rfl

theorem writeXs_withHost (r : ClReg) (data : Word) :
    writeXs r data (withHost host s) = withHost host (writeXs r data s) := by
  simp only [writeXs, writeCl_withHost, apply_ite (withHost host)]

theorem ckPushByte_withHost (b : Byte) : ckPushByte b (withHost host s) = withHost host (ckPushByte b s) := by
  simp only [ckPushByte, apply_ite (withHost host)]
  rfl

theorem ckComputeSpan_withHost : ckComputeSpan (withHost host s) = (ckComputeSpan s).map (withHost host) := by
  unfold ckComputeSpan
  split_ifs
  · rfl
  · cases s.cfg.valueSpan s.span <;> rfl

theorem ckVerifySpan_withHost : ckVerifySpan (withHost host s) = (ckVerifySpan s).map (withHost host) := by
  unfold ckVerifySpan
  split_ifs
  · rfl
  · cases s.cfg.verify s.span <;> rfl

theorem passBody_withHost : passBody (withHost host s) = passMap (withHost host) (passBody s) := by
  simp only [passBody, emitFrame_withHost, emit_withHost, resync_withHost]
  split_ifs
  · rfl
  · cases s.cfg.verify (s.pend.take s.candLen) with
    | none => rfl
    | some v =>
      simp only [apply_ite (passMap (withHost host))]
      rfl

theorem pass_withHost : Machine.pass (withHost host s) = passMap (withHost host) (Machine.pass s) := by
  simp only [Machine.pass]
  cases s.fsm with
  | seekingHeader =>
    simp only [passSeeking, windowGuard_withHost]
    cases firstMatch s.cfg.hdr s.pend <;> rfl
  | lengthPending =>
    simp only [passLength, emit_withHost, resync_withHost]
    cases s.cfg.resolve s.pend <;> rfl
  | bodyPending => exact passBody_withHost host s

theorem runFuel_withHost (n : Nat) : runFuel n (withHost host s) = (runFuel n s).map (withHost host) := by
  induction n generalizing s with
  | zero => rfl
  | succ n ih =>
    simp only [runFuel, pass_withHost]
    cases Machine.pass s with
    | again t => exact ih t
    | _ => rfl

theorem pushByte_withHost (b : Byte) : pushByte b (withHost host s) = (pushByte b s).map (withHost host) := by
  simp only [pushByte, apply_ite (Except.map (withHost host))]
  congr 1
  exact runFuel_withHost host { s with pend := s.pend ++ [b] } _

theorem pushBytes_withHost (bytes : List Byte) :
    pushBytes bytes (withHost host s) = (pushBytes bytes s).map (withHost host) := by
  induction bytes generalizing s with
  | nil => rfl
  | cons b bytes ih =>
    simp only [pushBytes, pushByte_withHost]
    cases pushByte b s with
    | ok t => exact ih t
    | error f => rfl

theorem flushLoop_withHost (n : Nat) : flushLoop n (withHost host s) = (flushLoop n s).map (withHost host) := by
  induction n generalizing s with
  | zero =>
    simp only [flushLoop, apply_ite (Except.map (withHost host))]
    rfl
  | succ n ih =>
    have hrun : ∀ t, run (withHost host t) = (run t).map (withHost host) := fun t => runFuel_withHost host t _
    simp only [flushLoop, emit_withHost, resync_withHost, hrun]
    split_ifs
    · rfl
    · cases run (resync (emit (truncatedRecord s.pend.length) s)) with
      | ok t => exact ih t
      | error f => rfl

theorem flush_withHost : flush (withHost host s) = (flush s).map (withHost host) := by
  simp only [flush, flushLoop_withHost]
  cases flushLoop s.pend.length s with
  | ok t => exact congrArg Except.ok (flushRemainder_withHost host t)
  | error f => rfl

end

/-! ## No instruction reads or writes the queue -/

/-- A meaning that does the same whatever the queue is, and keeps it. -/
def HostBlind (m : State → Host.Outcome State Fault Refusal) : Prop :=
  ∀ host s, m (withHost host s) = mapNext (withHost host) (m s)

theorem hostBlind_toOutcome {f : State → Except Fault State}
    (h : ∀ host s, f (withHost host s) = (f s).map (withHost host)) : HostBlind fun s => toOutcome (f s) := by
  intro host s
  change toOutcome (f (withHost host s)) = mapNext (withHost host) (toOutcome (f s))
  rw [h]
  cases f s <;> rfl

theorem hostBlind_whenArmed {f : State → Except Fault State}
    (h : ∀ host s, f (withHost host s) = (f s).map (withHost host)) :
    HostBlind fun s => toOutcome (whenArmed s f) := by
  refine hostBlind_toOutcome fun host s => ?_
  rw [whenArmed, whenArmed, h, apply_ite (Except.map (withHost host))]
  rfl

theorem hostBlind_next {f : State → State} (h : ∀ host s, f (withHost host s) = withHost host (f s)) :
    HostBlind fun s => .next (f s) :=
  fun host s => congrArg Host.Outcome.next (h host s)

theorem hostBlind_writeXs (r : ClReg) (data : Word) : HostBlind fun s => .next (writeXs r data s) :=
  hostBlind_next (writeXs_withHost · · r data)

theorem hostBlind_writeCl (r : ClReg) (data : Word) : HostBlind fun s => .next (writeCl r data s) :=
  hostBlind_next (writeCl_withHost · · r data)

theorem hostBlind_arm (ign : BitVec 28) : HostBlind (execArm ign) := by
  intro host s
  unfold execArm
  split_ifs
  · rfl
  · cases armError s.hw s.cfg <;> rfl

theorem hostBlind_outPop : HostBlind execOutPop := by
  intro host s
  unfold execOutPop
  cases s.out <;> rfl

theorem hostBlind_ckInit (ign : BitVec 28) : HostBlind (execCkInit ign) :=
  hostBlind_next fun host s => by
    simp only [apply_ite (withHost host)]
    rfl

theorem hostBlind_reservedAccess (op : BusOp) : HostBlind (execReservedAccess op) := by
  intro host s
  cases op with
  | read off =>
    simp only [execReservedAccess]
    cases xsRegAt off <;> rfl
  | write off data =>
    simp only [execReservedAccess]
    cases xsRegAt off with
    | none => rfl
    | some r => exact hostBlind_writeXs r data host s

/-- The instructions but CMD_WRITE; the last case is the reads, NOP, the reserved opcodes and the unconditional
updates. -/
theorem exec_hostBlind_of_ne_cmdWrite (i : Instr) (h : ∀ data, i ≠ .cmdWrite data) : HostBlind (exec i) := by
  cases i with
  | cmdWrite data => exact absurd rfl (h data)
  | arm ign => exact hostBlind_arm ign
  | ckInit ign => exact hostBlind_ckInit ign
  | ckCompute ign => exact hostBlind_whenArmed ckComputeSpan_withHost
  | ckVerify ign => exact hostBlind_whenArmed ckVerifySpan_withHost
  | flush ign => exact hostBlind_whenArmed flush_withHost
  | data8 data => exact hostBlind_toOutcome (pushByte_withHost · · _)
  | data32 data => exact hostBlind_toOutcome (pushBytes_withHost · · _)
  | outPop => exact hostBlind_outPop
  | ckData8 data => exact hostBlind_next (ckPushByte_withHost · · _)
  | ckData32 data => exact hostBlind_next fun host s => by simp only [ckPushByte_withHost]
  | reservedAccess op => exact hostBlind_reservedAccess op
  | wrFrameCfg data | wrFixedLen data | wrLenField data | wrMaxLen data | wrSyncWindow data | wrHdrBytes0 data
  | wrHdrBytes1 data | wrCkCfg data | wrCkRange data | wrCkStoreAt data | wrCrcPoly data | wrCrcInit data
  | wrCrcXorout data => exact hostBlind_writeCl _ data
  | wrXsBounds0 data | wrXsStep0 data | wrXsRela0 data | wrXsRelb0 data | wrXsBounds1 data | wrXsStep1 data
  | wrXsRela1 data | wrXsRelb1 data | wrXsBounds2 data | wrXsStep2 data | wrXsRela2 data | wrXsRelb2 data
  | wrXsBounds3 data | wrXsStep3 data | wrXsRela3 data | wrXsRelb3 data => exact hostBlind_writeXs _ data
  | _ => exact fun host s => rfl

theorem exec_hostBlind (i : Instr) : HostBlind (exec i) := by
  by_cases h : ∃ data, i = .cmdWrite data
  · obtain ⟨data, rfl⟩ := h
    have hcmd : exec (.cmdWrite data) = exec (decodeCmd data) := execCmdWrite_eq_exec_decodeCmd data
    rw [hcmd]
    exact exec_hostBlind_of_ne_cmdWrite _ (decodeCmd_ne_cmdWrite data)
  · exact exec_hostBlind_of_ne_cmdWrite i fun data hi => h ⟨data, hi⟩

/-! ## A run is its accesses delivered in order -/

/-- A bus operation delivered to the block: the step's arm for an access, without the queue. -/
def deliver (op : BusOp) (s : State) : Host.Outcome State Fault Refusal :=
  match decodeAccess op.toAccess with
  | .ok i => exec i { s with readData := none }
  | .error why => .refused (.hostProtocol why)

/-- Bus operations delivered one after the other. -/
def deliverAll : List BusOp → State → Host.Outcome State Fault Refusal
  | [], s => .next s
  | op :: ops, s => andThen (deliver op s) (deliverAll ops)

theorem deliverAll_append (ops ops' : List BusOp) (s : State) :
    deliverAll (ops ++ ops') s = andThen (deliverAll ops s) (deliverAll ops') := by
  induction ops generalizing s with
  | nil => rfl
  | cons op ops ih =>
    simp only [List.cons_append, deliverAll, andThen_assoc]
    exact congrArg _ (funext ih)

theorem step_access (op : BusOp) (rest : List HostEvent) (s : State) :
    step (withHost (.access op.toAccess :: rest) s) = mapNext (withHost rest) (deliver op s) := by
  cases hdecode : decodeAccess op.toAccess with
  | ok i =>
    rw [step_of_decodeAccess_ok rfl hdecode, deliver, hdecode]
    exact exec_hostBlind i rest { s with readData := none }
  | error why =>
    rw [step_of_decodeAccess_error rfl hdecode, deliver, hdecode]
    rfl

/-- `k` steps of the machine. -/
def runSteps (k : Nat) (s : State) : Host.Outcome State Fault Refusal := Sys2Proof.core.run k s

theorem runSteps_succ (k : Nat) (s : State) : runSteps (k + 1) s = andThen (step s) (runSteps k) := by
  cases hstep : step s <;> simp [runSteps, Host.Core.run, core, andThen, hstep]

/-- The events that carry bus operations. -/
abbrev accessEvents (ops : List BusOp) : List HostEvent := ops.map fun op => .access op.toAccess

/-- A run to the end of its accesses leaves an empty queue, and otherwise what the accesses leave. -/
theorem runSteps_accessEvents (ops : List BusOp) (s : State) :
    runSteps (accessEvents ops).length (withHost (accessEvents ops) s) = mapNext (withHost []) (deliverAll ops s) := by
  induction ops generalizing s with
  | nil => rfl
  | cons op ops ih =>
    rw [accessEvents, List.map_cons, List.length_cons, runSteps_succ, step_access, deliverAll, mapNext, andThen_assoc,
      mapNext, andThen_assoc]
    exact congrArg _ (funext ih)

theorem runSteps_hostEvents (program : List HostOp) (s : State) :
    runSteps (hostEvents program).length (withHost (hostEvents program) s) =
      mapNext (withHost []) (deliverAll (program.flatMap HostOp.expand) s) :=
  runSteps_accessEvents _ s

/-! ## Pushes of several bytes -/

theorem pushByte_readData {b : Byte} {s t : State} (h : pushByte b s = .ok t) : t.readData = s.readData := by
  unfold pushByte at h
  split at h
  · rw [(runFuel_syncStep h).frame]
  · cases h
    rfl

theorem ckPushByte_readData (b : Byte) (s : State) : (ckPushByte b s).readData = s.readData := by
  rcases ckPushByte_cases b s with ⟨-, h⟩ | ⟨-, -, h⟩ | ⟨-, -, h⟩ <;> rw [h]

/-- A write returns nothing, so after one the next access finds nothing returned. -/
theorem readData_none_eq_self {s : State} (hread : s.readData = none) : { s with readData := none } = s := by
  rw [← hread]

theorem lane_zero_of_byte (b : Byte) : lane (b.setWidth 32) 0 = b := extract_low_field b (by decide)

theorem deliver_write {off : BitVec 12} {row : Word → Instr} (haligned : off.extractLsb' 0 2 = 0#2)
    (hrow : writeRows.lookup off = some row) (data : Word) (s : State) :
    deliver (.write off data) s = exec (row data) { s with readData := none } := by
  simp only [deliver, decodeAccess, Laws.write_accepted off data (beq_iff_eq.2 haligned),
    decodeBus_of_writeRow haligned hrow]

theorem deliver_data8 (b : Byte) (s : State) :
    deliver (.write 0x100 (b.setWidth 32)) s = toOutcome (pushByte b { s with readData := none }) := by
  rw [deliver_write rfl rfl]
  exact congrArg (fun b => toOutcome (pushByte b { s with readData := none })) (lane_zero_of_byte b)

theorem deliver_ckData8 (b : Byte) (s : State) :
    deliver (.write 0x140 (b.setWidth 32)) s = .next (ckPushByte b { s with readData := none }) := by
  rw [deliver_write rfl rfl]
  exact congrArg (fun b => Host.Outcome.next (ckPushByte b { s with readData := none })) (lane_zero_of_byte b)

theorem deliverAll_push (bytes : List Byte) {s : State} (hread : s.readData = none) :
    deliverAll (HostOp.push bytes).expand s = toOutcome (pushBytes bytes s) := by
  induction bytes generalizing s with
  | nil => rfl
  | cons b bytes ih =>
    change andThen (deliver _ s) (deliverAll (HostOp.push bytes).expand) = _
    rw [deliver_data8, readData_none_eq_self hread, pushBytes]
    cases hpush : pushByte b s with
    | ok t => exact ih ((pushByte_readData hpush).trans hread)
    | error f => rfl

theorem deliverAll_ckpush (bytes : List Byte) {s : State} (hread : s.readData = none) :
    deliverAll (HostOp.ckpush bytes).expand s = .next (bytes.foldl (fun t b => ckPushByte b t) s) := by
  induction bytes generalizing s with
  | nil => rfl
  | cons b bytes ih =>
    change andThen (deliver _ s) (deliverAll (HostOp.ckpush bytes).expand) = _
    rw [deliver_ckData8, readData_none_eq_self hread]
    exact ih ((ckPushByte_readData b s).trans hread)

/-- The first access of a sequence clears what was returned before. -/
theorem deliverAll_bytewise (op : HostOp) (s : State) : deliverAll op.bytewise.expand s = deliverAll op.expand s := by
  let u : State := { s with readData := none }
  cases op with
  | pushw b0 b1 b2 b3 =>
    obtain ⟨h0, h1, h2, h3⟩ := lane_ofLanes b0 b1 b2 b3
    calc deliverAll (HostOp.push [b0, b1, b2, b3]).expand s
      _ = deliverAll (HostOp.push [b0, b1, b2, b3]).expand u := rfl
      _ = toOutcome (pushBytes [b0, b1, b2, b3] u) := deliverAll_push _ rfl
      _ = exec (.data32 (ofLanes b0 b1 b2 b3)) u := by rw [exec, execData32, h0, h1, h2, h3]
      _ = deliver (.write 0x104 (ofLanes b0 b1 b2 b3)) s := (deliver_write rfl rfl _ s).symm
      _ = deliverAll (HostOp.pushw b0 b1 b2 b3).expand s := (andThen_next _).symm
  | ckpushw b0 b1 b2 b3 =>
    obtain ⟨h0, h1, h2, h3⟩ := lane_ofLanes b0 b1 b2 b3
    calc deliverAll (HostOp.ckpush [b0, b1, b2, b3]).expand s
      _ = deliverAll (HostOp.ckpush [b0, b1, b2, b3]).expand u := rfl
      _ = .next ([b0, b1, b2, b3].foldl (fun t b => ckPushByte b t) u) := deliverAll_ckpush _ rfl
      _ = exec (.ckData32 (ofLanes b0 b1 b2 b3)) u := by rw [exec, execCkData32, h0, h1, h2, h3]; rfl
      _ = deliver (.write 0x144 (ofLanes b0 b1 b2 b3)) s := (deliver_write rfl rfl _ s).symm
      _ = deliverAll (HostOp.ckpushw b0 b1 b2 b3).expand s := (andThen_next _).symm
  | _ => rfl

/-- Settles O46: a run is its accesses delivered in order, and each host operation may be delivered bytewise. -/
theorem groupingOfBytesUnobservable : Obligations.GroupingOfBytesUnobservable := by
  intro s program
  have hops : ∀ (program : List HostOp) (s : State), deliverAll (program.flatMap HostOp.expand) s =
      deliverAll ((program.map HostOp.bytewise).flatMap HostOp.expand) s := by
    intro program
    induction program with
    | nil => exact fun _ => rfl
    | cons op program ih =>
      intro s
      rw [List.map_cons, List.flatMap_cons, List.flatMap_cons, deliverAll_append, deliverAll_append,
        deliverAll_bytewise, funext ih]
  calc runSteps (hostEvents program).length (withHost (hostEvents program) s)
    _ = mapNext (withHost []) (deliverAll (program.flatMap HostOp.expand) s) := runSteps_hostEvents program s
    _ = mapNext (withHost []) (deliverAll ((program.map HostOp.bytewise).flatMap HostOp.expand) s) := by rw [hops]
    _ = _ := (runSteps_hostEvents _ s).symm

end Sys2Proof.Proofs
end

section
/-! PROOFS. Family 42_frame_synchronizer.md: on a stream with no header occurrence Pend plateaus at the window (R176,
R186). -/

namespace Sys2Proof.Proofs

open Sys2Proof Sys2Proof.Machine

/-! ## The window guard -/

section
variable (s : State)

theorem windowGuard_pend : (windowGuard s).pend = s.pend.drop (s.pend.length - s.cfg.window) := by
  unfold windowGuard
  split
  · rfl
  · rw [Nat.sub_eq_zero_of_le (by omega), List.drop_zero]

theorem windowGuard_cntDiscard :
    (windowGuard s).cntDiscard = s.cntDiscard + BitVec.ofNat 32 (s.pend.length - s.cfg.window) := by
  unfold windowGuard
  split
  · rfl
  · simp [Nat.sub_eq_zero_of_le (Nat.not_lt.1 ‹_›)]

theorem windowGuard_irqStatus : (windowGuard s).irqStatus =
    if s.pend.length ≤ s.cfg.window then s.irqStatus else s.irqStatus ||| 0x04 := by
  simp only [windowGuard, ← Nat.not_lt, ite_not, apply_ite State.irqStatus]
  rfl

theorem windowGuard_frame : windowGuard s = { s with
    pend := (windowGuard s).pend, cntDiscard := (windowGuard s).cntDiscard,
    irqStatus := (windowGuard s).irqStatus } := by
  unfold windowGuard
  split <;> rfl

/-- Bytes dropped in two goes are counted together. -/
theorem discardTo_discardTo (pend pend' : List Byte) (k k' : Nat) :
    discardTo pend' k' (discardTo pend k s) = discardTo pend' (k + k') s := by
  simp [discardTo, setIrq, BitVec.ofNat_add, BitVec.add_assoc, BitVec.or_assoc]

/-- Dropping the bytes beyond the window before a byte is appended makes no difference once they are dropped after. -/
theorem windowGuard_appended_windowGuard (b : Byte) :
    windowGuard (appended [b] (windowGuard s)) = windowGuard (appended [b] s) := by
  by_cases hle : s.pend.length ≤ s.cfg.window
  · rw [windowGuard_of_le hle]
  · obtain ⟨k, hk⟩ : ∃ k, s.pend.length = s.cfg.window + k := ⟨s.pend.length - s.cfg.window, by omega⟩
    have hpend : (appended [b] s).pend.length = s.cfg.window + (k + 1) := by simp; omega
    have hpend' : (appended [b] (discardTo (s.pend.drop k) k s)).pend.length = s.cfg.window + 1 := by simp; omega
    have hdrop : (appended [b] (discardTo (s.pend.drop k) k s)).pend.drop 1 = (appended [b] s).pend.drop (k + 1) := by
      change (s.pend.drop k ++ [b]).drop 1 = (s.pend ++ [b]).drop (k + 1)
      rw [← List.drop_append_of_le_length (by omega), List.drop_drop]
    rw [windowGuard_of_excess hk (by omega), windowGuard_of_excess hpend (by omega),
      windowGuard_of_excess hpend' (by omega), hdrop]
    exact discardTo_discardTo s _ _ k 1

end

/-! ## Noise -/

section
variable {s : State} (harmed : s.mode = .armed) (hfsm : s.fsm = .seekingHeader) (hhdr : 1 ≤ s.cfg.hdr.length)
include harmed hfsm hhdr

theorem pushByte_noise {b : Byte} (hno : ∀ p, ¬Matches s.cfg.hdr (s.pend ++ [b]) p) :
    pushByte b (windowGuard s) = .ok (windowGuard (appended [b] s)) := by
  have hpend : (windowGuard s).pend ++ [b] = (s.pend ++ [b]).drop (s.pend.length - s.cfg.window) := by
    rw [windowGuard_pend, List.drop_append_of_le_length (by omega)]
  rw [pushByte_of_noMatch (by simpa using harmed) (by simpa using hfsm), windowGuard_appended_windowGuard]
  intro p hmatch
  rw [hpend, windowGuard_cfg] at hmatch
  exact hno _ (hmatch.of_drop hhdr)

/-- Noise leaves what the window guard leaves of all its bytes at once. -/
theorem pushBytes_noise (bytes : List Byte) (hno : ∀ p, ¬Matches s.cfg.hdr (s.pend ++ bytes) p) :
    pushBytes bytes (windowGuard s) = .ok (windowGuard (appended bytes s)) := by
  induction bytes generalizing s with
  | nil => rw [appended, List.append_nil, pushBytes]
  | cons b bytes ih =>
    have hsplit : appended (b :: bytes) s = appended bytes (appended [b] s) := by simp [appended]
    have hno' : ∀ p, ¬Matches s.cfg.hdr ((appended [b] s).pend ++ bytes) p := by simpa using hno
    rw [pushBytes, pushByte_noise harmed hfsm hhdr fun p hmatch => hno' p (hmatch.append bytes), hsplit]
    exact ih (s := appended [b] s) harmed hfsm hhdr hno'

end

/-- What was returned before the first byte is gone after it. -/
theorem deliverAll_push_of_any_readData (bytes : List Byte) (s : State) :
    ∃ r, deliverAll (HostOp.push bytes).expand s = toOutcome (pushBytes bytes { s with readData := r }) := by
  cases bytes with
  | nil => exact ⟨s.readData, rfl⟩
  | cons b bytes => exact ⟨none, deliverAll_push (b :: bytes) (s := { s with readData := none }) rfl⟩

/-- Settles O58: the run is the pushes in order, and they leave what the window guard leaves of all the bytes. -/
theorem noisePlateausAtWindow : Obligations.NoisePlateausAtWindow := by
  intro s bytes h harmed hfsm hpend hno
  obtain ⟨r, hdeliver⟩ := deliverAll_push_of_any_readData bytes s
  let start : State := { s with readData := r }
  let u := appended bytes start
  have hu : u.pend = bytes := by simp [u, start, hpend]
  have hguard : windowGuard start = start := windowGuard_of_le (by simp [start, hpend])
  have hnoise : pushBytes bytes start = .ok (windowGuard u) := by
    rw [← hguard]
    exact pushBytes_noise (s := start) harmed hfsm (configFacts h harmed).hdr_pos bytes
      (by simpa [start, hpend] using hno)
  have hkept : (windowGuard u).pend = bytes.drop (bytes.length - s.cfg.window) := by rw [windowGuard_pend, hu]
  refine ⟨withHost [] (windowGuard u), ?_, ?_, ?_, ?_, ?_, ?_⟩
  · have hlen : bytes.length = (hostEvents [.push bytes]).length := by simp [hostEvents, HostOp.expand]
    have hops : [HostOp.push bytes].flatMap HostOp.expand = (HostOp.push bytes).expand := List.flatMap_singleton _ _
    calc runSteps bytes.length (withHost (hostEvents [.push bytes]) s)
      _ = mapNext (withHost []) (deliverAll (HostOp.push bytes).expand s) := by rw [hlen, runSteps_hostEvents, hops]
      _ = .next (withHost [] (windowGuard u)) := by rw [hdeliver, hnoise]; rfl
  · rw [windowGuard_frame]
  · exact hkept
  · exact (congrArg List.length hkept).trans (List.length_drop.trans (Nat.sub_sub_eq_min _ _))
  · exact (windowGuard_cntDiscard u).trans (by rw [hu])
  · exact (windowGuard_irqStatus u).trans (by rw [hu])

end Sys2Proof.Proofs
end

section
/-! PROOFS. Family 43_commands.md: NOP and the reserved opcodes (R200, R209), DISARM (R203), SOFT_RESET (R210), and the
commands that are legal only in ARMED (R199): CK_INIT (R206), CK_COMPUTE (R207), CK_VERIFY (R208), FLUSH (R204). -/

namespace Sys2Proof.Proofs

open Sys2Proof Sys2Proof.Machine

/-! ## Commands with one meaning in every mode -/

theorem exec_cmdWrite_eq (data : Word) (s : State) : exec (.cmdWrite data) s = exec (decodeCmd data) s :=
  congrFun (execCmdWrite_eq_exec_decodeCmd data) s

/-- Settles O22: the two CMD words decode to NOP, and the eight opcodes share one meaning. -/
theorem nopAndReservedOpcodes : Obligations.NopAndReservedOpcodes := by
  intro ign s
  constructor
  · intro i hi
    fin_cases hi
    exacts [rfl, exec_cmdWrite_eq 0x00000000 s, exec_cmdWrite_eq 0xFFFFFFF0 s]
  · intro i hi
    have hreserved : exec i s = .next (reservedOpcode s) := by fin_cases hi <;> rfl
    exact hreserved

/-- Settles O24, by the meaning of DISARM. -/
theorem disarmEndsSession : Obligations.DisarmEndsSession := fun _ _ => rfl

/-- Whatever the build and the host's further events, the block's own state is that of the reset state. -/
theorem resetValues_resetBlock (s : State) : ResetValues (resetBlock s) := { resetValues_reset with }

/-- Settles O9: SOFT_RESET is the reset of the block. -/
theorem softResetGivesResetValues : Obligations.SoftResetGivesResetValues :=
  fun _ s => ⟨resetBlock s, rfl, resetValues_resetBlock s, resetBlock_hw s, resetBlock_host s, resetBlock_readData s⟩

/-! ## Commands legal only in ARMED -/

theorem whenArmed_of_ok {s t : State} {run : State → Except Fault State} (harmed : s.mode = .armed)
    (hrun : run s = .ok t) : toOutcome (whenArmed s run) = .next t := by
  rw [whenArmed, if_pos harmed, hrun]
  rfl

theorem whenArmed_of_not_armed {s : State} (hm : s.mode ≠ .armed) (run : State → Except Fault State) :
    toOutcome (whenArmed s run) = .next { s with lastOpErr := 2, irqStatus := s.irqStatus ||| 0x20 } := by
  rw [whenArmed, if_neg hm]
  rfl

/-- Settles O25, by the mode. -/
theorem ckInitStartsSpan : Obligations.CkInitStartsSpan :=
  fun _ _ => ⟨fun hm => congrArg Host.Outcome.next (if_neg hm), fun harmed => congrArg Host.Outcome.next (if_pos harmed)⟩

/-! ## CK_COMPUTE and CK_VERIFY -/

theorem slicesLegal_eq_true_iff (c : ClRegs) (n : Nat) :
    c.slicesLegal n = true ↔ ∀ x ∈ c.xs.toList.take c.xsCount, x.legal c.rangeIncl n = true :=
  List.all_eq_true

theorem slicesLegal_eq_false_iff (c : ClRegs) (n : Nat) :
    c.slicesLegal n = false ↔ ∃ x ∈ c.xs.toList.take c.xsCount, x.legal c.rangeIncl n = false := by
  simp [ClRegs.slicesLegal, ClRegs.usedSlices]

theorem ckComputeSpan_of_illegal {s : State} (hfamily : s.cfg.family = some .xor16)
    (hillegal : s.cfg.slicesLegal s.span.length = false) :
    ckComputeSpan s =
      .ok (setIrq .ckDone { s with ckGeomErr := true, ckValid := false, ckMatch := false, ckResult := 0 }) :=
  if_pos ⟨hfamily, hillegal⟩

theorem ckComputeSpan_of_legal {s : State} {f : CkFamily} (hfamily : s.cfg.family = some f)
    (hlegal : f = .xor16 → s.cfg.slicesLegal s.span.length = true) :
    ckComputeSpan s = .ok (setIrq .ckDone
      { s with ckResult := familyValue s.cfg f s.span s.span, ckValid := true, ckGeomErr := false, ckMatch := false }) := by
  have hgeometry : ¬(s.cfg.family = some .xor16 ∧ s.cfg.slicesLegal s.span.length = false) := by
    rintro ⟨hxor, hillegal⟩
    have hf : f = .xor16 := Option.some.inj (hfamily.symm.trans hxor)
    simp [hlegal hf] at hillegal
  rw [ckComputeSpan, if_neg hgeometry, valueSpan_of_family hfamily]

/-- Settles O26: the three clauses are the mode check and the two branches on the slices. -/
theorem ckComputeWholeSpan : Obligations.CkComputeWholeSpan := by
  intro ign s f
  refine ⟨fun hm => whenArmed_of_not_armed hm _, fun harmed hfamily hillegal => ?_, fun harmed hfamily hlegal => ?_⟩
  · obtain ⟨rfl, hslice⟩ := hillegal
    exact whenArmed_of_ok harmed (ckComputeSpan_of_illegal hfamily ((slicesLegal_eq_false_iff _ _).2 hslice))
  · exact whenArmed_of_ok harmed
      (ckComputeSpan_of_legal hfamily fun hf => (slicesLegal_eq_true_iff _ _).2 (hlegal hf))

theorem ckVerifySpan_of_misfit {s : State} (hgeom : s.cfg.ckGeom s.span.length = false) :
    ckVerifySpan s = .ok (setIrq .ckDone
      { s with ckGeomErr := true, ckValid := false, ckMatch := false, ckResult := 0, ckStored := 0 }) :=
  if_pos hgeom

theorem verify_of_ckGeom {c : ClRegs} {f : CkFamily} (hfamily : c.family = some f) {frame : List Byte}
    (hgeom : c.ckGeom frame.length = true) :
    c.verify frame = some ⟨decide (familyValue c f frame (c.covered frame) = c.stored frame),
      familyValue c f frame (c.covered frame), c.stored frame⟩ := by
  rw [ClRegs.verify, if_pos hgeom, value_of_family hfamily]
  rfl

theorem ckVerifySpan_of_ckGeom {s : State} {f : CkFamily} (hfamily : s.cfg.family = some f)
    (hgeom : s.cfg.ckGeom s.span.length = true) :
    ckVerifySpan s = .ok (setIrq .ckDone
      { s with
        ckResult := familyValue s.cfg f s.span (s.cfg.covered s.span), ckStored := s.cfg.stored s.span, ckValid := true,
        ckMatch := decide (familyValue s.cfg f s.span (s.cfg.covered s.span) = s.cfg.stored s.span),
        ckGeomErr := false }) := by
  rw [ckVerifySpan, if_neg (by simp [hgeom]), verify_of_ckGeom hfamily hgeom]

/-- Settles O27: the three clauses are the mode check and the two branches on the geometry. -/
theorem ckVerifySpanAsFrame : Obligations.CkVerifySpanAsFrame := by
  intro ign s f
  exact ⟨fun hm => whenArmed_of_not_armed hm _, fun harmed hgeom => whenArmed_of_ok harmed (ckVerifySpan_of_misfit hgeom),
    fun harmed hfamily hgeom => whenArmed_of_ok harmed (ckVerifySpan_of_ckGeom hfamily hgeom)⟩

/-! ## FLUSH -/

theorem flushRemainder_eq_ite (s : State) : flushRemainder s =
    if s.pend = [] then s
    else { s with pend := [], cntDiscard := s.cntDiscard + BitVec.ofNat 32 s.pend.length,
                  irqStatus := s.irqStatus ||| 0x04 } := by
  rcases flushRemainder_cases s with ⟨hpend, h⟩ | ⟨hpend, h⟩
  · rw [h, if_pos hpend]
  · rw [h, if_neg hpend]

/-- Settles O28: the loop returns where the relation leads, and the remainder is discarded. -/
theorem flushResolvesCandidates : Obligations.FlushResolvesCandidates := by
  intro ign s
  refine ⟨fun hm => whenArmed_of_not_armed hm _, fun harmed hinv => ?_⟩
  obtain ⟨t, hflush, hfsm, -, hto⟩ := flush_returns (configFacts hinv harmed) (hinv.resting harmed)
  refine ⟨t, hto, hfsm, ?_⟩
  rw [← flushRemainder_eq_ite]
  exact whenArmed_of_ok harmed hflush

end Sys2Proof.Proofs
end

section
/-! PROOFS. Family 43_commands.md: ARM reports the first check of R201 that fails or starts a session (R202), and the
mode transitions (R211). -/

namespace Sys2Proof.Proofs

open Sys2Proof Sys2Proof.Machine

/-! ## ARM's checks in order -/

/-- The checks of 43_commands.md R201 in order, each named by the error it reports. -/
def checkOrder : List CfgError :=
  [.unsupportedType, .badHeader, .badMaxLen, .badWindow, .badLength, .badStore, .badSlices, .badGeometry]

/-- The check that reports an error. -/
def armCheck (hw : HwParams) (c : ClRegs) : CfgError → Bool
  | .unsupportedType => typeUnsupported hw c
  | .badHeader => headerBad hw c
  | .badMaxLen => maxLenBad hw c
  | .badWindow => windowBad hw c
  | .badLength => lengthBad c
  | .badStore => storeBad c
  | .badSlices => slicesBad hw c
  | .badGeometry => geometryBad c

theorem armError_eq_find? (hw : HwParams) (c : ClRegs) : armError hw c = checkOrder.find? (armCheck hw c) := by
  unfold armError
  split_ifs <;> simp_all [checkOrder, armCheck]

/-- The codes of 60_exceptions.md R266 number the checks in order. -/
theorem checkOrder_code : ∀ i : Fin checkOrder.length, checkOrder[i].code.toNat = i + 1 := by decide

theorem armCheck_iff (hw : HwParams) (c : ClRegs) (e : CfgError) :
    armCheck hw c e = true ↔ ArmCheckFails hw c e.code.toNat := by
  obtain ⟨htype, hheader, hmaxLen, hwindow, hlength, hstore, hslices, hgeometry⟩ := armChecks_iff hw c
  cases e with
  | unsupportedType => exact htype
  | badHeader => exact hheader
  | badMaxLen => exact hmaxLen
  | badWindow => exact hwindow
  | badLength => exact hlength
  | badStore => exact hstore
  | badSlices => exact hslices
  | badGeometry => exact hgeometry

/-- Check k is that of the error at place k − 1; no other number names a check. -/
theorem armCheckFails_iff (hw : HwParams) (c : ClRegs) (k : Nat) :
    ArmCheckFails hw c k ↔ ∃ i : Fin checkOrder.length, k = i + 1 ∧ armCheck hw c checkOrder[i] = true := by
  simp only [armCheck_iff, checkOrder_code]
  constructor
  · intro h
    match k with
    | i + 1 =>
      by_cases hi : i < checkOrder.length
      · exact ⟨⟨i, hi⟩, rfl, h⟩
      · obtain ⟨n, rfl⟩ := Nat.exists_eq_add_of_le' (Nat.not_lt.1 hi)
        exact h.elim
  · rintro ⟨i, rfl, h⟩
    exact h

theorem armError_eq_none_iff (hw : HwParams) (c : ClRegs) : armError hw c = none ↔ ∀ k, ¬ArmCheckFails hw c k := by
  simp only [armError_eq_find?, List.find?_eq_none, armCheckFails_iff, List.forall_mem_iff_forall_getElem]
  constructor
  · rintro h k ⟨i, -, hi⟩
    exact h i i.isLt hi
  · exact fun h i hi hfails => h (i + 1) ⟨⟨i, hi⟩, rfl, hfails⟩

/-- The error reported is that of the first failing check (60_exceptions.md R267). -/
theorem armError_of_first {hw : HwParams} {c : ClRegs} {k : Nat} (hfails : ArmCheckFails hw c k)
    (hfirst : ∀ j, j < k → ¬ArmCheckFails hw c j) : ∃ e, armError hw c = some e ∧ e.code.toNat = k := by
  obtain ⟨i, rfl, hi⟩ := (armCheckFails_iff hw c k).1 hfails
  refine ⟨checkOrder[i], ?_, checkOrder_code i⟩
  rw [armError_eq_find?, List.find?_eq_some_iff_getElem]
  refine ⟨hi, i, i.isLt, rfl, fun j hj => ?_⟩
  have hpasses : ¬armCheck hw c checkOrder[j] = true := fun hj' =>
    hfirst (j + 1) (by omega) ((armCheckFails_iff hw c _).2 ⟨⟨j, hj.trans i.isLt⟩, rfl, hj'⟩)
  simpa using hpasses

/-! ## ARM -/

theorem execArm_of_armed {s : State} (harmed : s.mode = .armed) (ign : BitVec 28) :
    execArm ign s = .next (raiseOpErr .badMode s) := if_pos harmed

theorem execArm_of_error {s : State} (hm : s.mode ≠ .armed) {e : CfgError} (herror : armError s.hw s.cfg = some e)
    (ign : BitVec 28) : execArm ign s = .next (raiseCfgErr e s) := by
  rw [execArm, if_neg hm, herror]

theorem execArm_of_no_error {s : State} (hm : s.mode ≠ .armed) (herror : armError s.hw s.cfg = none)
    (ign : BitVec 28) : execArm ign s = .next (armSession s) := by
  rw [execArm, if_neg hm, herror]

/-- ARM outside a session whose first failing check is the one of a code. -/
theorem execArm_of_first {s : State} {code : BitVec 8} (hm : s.mode ≠ .armed)
    (hfails : ArmCheckFails s.hw s.cfg code.toNat) (hfirst : ∀ j, j < code.toNat → ¬ArmCheckFails s.hw s.cfg j)
    (ign : BitVec 28) :
    execArm ign s = .next { s with mode := .cfgErr, cfgErrCode := code, irqStatus := s.irqStatus ||| 0x10 } := by
  obtain ⟨e, herror, hcode⟩ := armError_of_first hfails hfirst
  obtain rfl : e.code = code := BitVec.eq_of_toNat_eq hcode
  exact execArm_of_error hm herror ign

/-! ## CrcTable -/

theorem byteTable_getElem? {α : Type} (f : Byte → α) (d : Byte) :
    ((List.range 256).map fun i => f (BitVec.ofNat 8 i))[d.toNat]? = some (f d) := by
  simp [List.getElem?_range d.isLt]

theorem family_eq_crc16_iff (c : ClRegs) : c.family = some .crc16 ↔ c.ckType = 3 := by
  rw [ClRegs.family]
  generalize c.ckType = code
  revert code
  decide

theorem family_eq_crc32_iff (c : ClRegs) : c.family = some .crc32 ↔ c.ckType = 4 := by
  rw [ClRegs.family]
  generalize c.ckType = code
  revert code
  decide

theorem crcTableWords_of_crc16 {c : ClRegs} (htype : c.ckType = 3) : c.crcTableWords =
    some ((List.range 256).map fun i => (crcTableEntry (c.crcPoly.setWidth 16) (BitVec.ofNat 8 i)).setWidth 32) := by
  rw [ClRegs.crcTableWords, (family_eq_crc16_iff c).2 htype]

theorem crcTableWords_of_crc32 {c : ClRegs} (htype : c.ckType = 4) : c.crcTableWords =
    some ((List.range 256).map fun i => crcTableEntry c.crcPoly (BitVec.ofNat 8 i)) := by
  rw [ClRegs.crcTableWords, (family_eq_crc32_iff c).2 htype]

theorem crcTableWords_of_other {c : ClRegs} (h16 : c.ckType ≠ 3) (h32 : c.ckType ≠ 4) : c.crcTableWords = none := by
  unfold ClRegs.crcTableWords
  split
  · exact absurd ((family_eq_crc16_iff c).1 ‹_›) h16
  · exact absurd ((family_eq_crc32_iff c).1 ‹_›) h32
  · rfl

/-- Settles O23: the checks in order decide between the error and the session, and a CRC type has its table written. -/
theorem armChecksAndEffects : Obligations.ArmChecksAndEffects := by
  intro s ign
  refine ⟨fun harmed => execArm_of_armed harmed ign, fun code hm hfails hfirst => execArm_of_first hm hfails hfirst ign,
    fun hm hpasses => ?session, ?atReset⟩
  case session =>
    refine ⟨armSession s, execArm_of_no_error hm ((armError_eq_none_iff _ _).2 hpasses) ign, rfl, fun htype => ?_,
      fun htype => ?_, fun h16 h32 => ?_⟩
    · rw [armSession_crcTable, crcTableWords_of_crc16 htype, Option.getD_some]
      exact ⟨by simp, fun d => byteTable_getElem? (fun d => (crcTableEntry (s.cfg.crcPoly.setWidth 16) d).setWidth 32) d⟩
    · rw [armSession_crcTable, crcTableWords_of_crc32 htype, Option.getD_some]
      exact ⟨by simp, fun d => byteTable_getElem? (crcTableEntry s.cfg.crcPoly) d⟩
    · rw [armSession_crcTable, crcTableWords_of_other h16 h32, Option.getD_none]
  case atReset =>
    have hheader : ArmCheckFails State.reset.hw State.reset.cfg 2 := .inl rfl
    have htype : ¬ArmCheckFails State.reset.hw State.reset.cfg 1 := by
      have hcode : State.reset.cfg.ckType.toNat = 0 := rfl
      simp [ArmCheckFails, hcode]
    refine ⟨hheader, execArm_of_first (s := State.reset) (code := 2) nofun hheader (fun j hj => ?_) ign, rfl⟩
    match j, hj with
    | 0, _ => exact id
    | 1, _ => exact htype

/-! ## What keeps the mode -/

/-- The meaning never changes MODE. -/
def KeepsMode (m : State → Host.Outcome State Fault Refusal) : Prop := ∀ s t, m s = .next t → t.mode = s.mode

theorem keepsMode_next {f : State → State} (h : ∀ s, (f s).mode = s.mode) : KeepsMode fun s => .next (f s) := by
  intro s t hnext
  cases hnext
  exact h s

theorem keepsMode_toOutcome {f : State → Except Fault State} (h : ∀ s t, f s = .ok t → t.mode = s.mode) :
    KeepsMode fun s => toOutcome (f s) :=
  fun s t hnext => h s t (toOutcome_eq_next.1 hnext)

theorem keepsMode_whenArmed {f : State → Except Fault State} (h : ∀ s t, f s = .ok t → t.mode = s.mode) :
    KeepsMode fun s => toOutcome (whenArmed s f) := by
  refine keepsMode_toOutcome fun s t hok => ?_
  rcases whenArmed_cases hok with ⟨-, hrun⟩ | ⟨-, rfl⟩
  · exact h s t hrun
  · rfl

theorem writeCl_mode (r : ClReg) (data : Word) (s : State) : (writeCl r data s).mode = s.mode := by
  rcases writeCl_cases r data s with ⟨-, h⟩ | ⟨-, h⟩ <;> rw [h]

theorem writeXs_mode (r : ClReg) (data : Word) (s : State) : (writeXs r data s).mode = s.mode := by
  rcases writeXs_cases r data s with ⟨-, h⟩ | ⟨-, h⟩ <;> rw [h]
  exact writeCl_mode r data s

theorem ckPushByte_mode (b : Byte) (s : State) : (ckPushByte b s).mode = s.mode := by
  rcases ckPushByte_cases b s with ⟨-, h⟩ | ⟨-, -, h⟩ | ⟨-, -, h⟩ <;> rw [h]

theorem ckPushBytes_mode (bytes : List Byte) (s : State) :
    (bytes.foldl (fun t b => ckPushByte b t) s).mode = s.mode := by
  induction bytes generalizing s with
  | nil => rfl
  | cons b bytes ih => exact (ih _).trans (ckPushByte_mode b s)

theorem ckReported_mode {s t : State} (h : CkReported s t) : t.mode = s.mode := by
  obtain ⟨valid, ok, result, stored, -, rfl⟩ := h
  rfl

theorem pushByte_mode {b : Byte} {s t : State} (h : pushByte b s = .ok t) : t.mode = s.mode := by
  unfold pushByte at h
  split at h
  · exact (runFuel_syncStep h).mode
  · cases h
    rfl

theorem pushBytes_mode {bytes : List Byte} {s t : State} (h : pushBytes bytes s = .ok t) : t.mode = s.mode := by
  induction bytes generalizing s with
  | nil =>
    cases h
    rfl
  | cons b bytes ih =>
    obtain ⟨u, hu, hrest⟩ := pushBytes_cons.1 h
    exact (ih hrest).trans (pushByte_mode hu)

theorem execOutPop_keepsMode : KeepsMode execOutPop := by
  intro s t h
  rcases execOutPop_cases h with ⟨-, rfl⟩ | ⟨v, rest, -, rfl⟩ <;> rfl

theorem execReservedAccess_keepsMode (op : BusOp) : KeepsMode (execReservedAccess op) := by
  cases op with
  | read off => exact keepsMode_next fun s => by split <;> rfl
  | write off data =>
    refine keepsMode_next fun s => ?_
    split
    · exact writeXs_mode _ data s
    · rfl

/-! ## What changes the mode -/

/-- The commands that change MODE (43_commands.md R211). -/
def ModeCommand (i : Instr) : Prop := ∃ ign, i = .arm ign ∨ i = .disarm ign ∨ i = .softReset ign

/-- The last case is NOP, the reserved opcodes, the reads, IRQ_ENABLE and IRQ_W1C, which touch no mode. -/
theorem exec_keepsMode (i : Instr) (hi : ¬ModeCommand i) (hcmd : ∀ data, i ≠ .cmdWrite data) : KeepsMode (exec i) := by
  cases i with
  | arm ign => exact absurd ⟨ign, .inl rfl⟩ hi
  | disarm ign => exact absurd ⟨ign, .inr (.inl rfl)⟩ hi
  | softReset ign => exact absurd ⟨ign, .inr (.inr rfl)⟩ hi
  | cmdWrite data => exact absurd rfl (hcmd data)
  | flush ign => exact keepsMode_whenArmed fun _ _ h => (flush_syncStep h).mode
  | ckCompute ign => exact keepsMode_whenArmed fun _ _ h => ckReported_mode (ckComputeSpan_reported h)
  | ckVerify ign => exact keepsMode_whenArmed fun _ _ h => ckReported_mode (ckVerifySpan_reported h)
  | ckInit ign => exact keepsMode_next fun s => by split <;> rfl
  | data8 data => exact keepsMode_toOutcome fun _ _ h => pushByte_mode h
  | data32 data => exact keepsMode_toOutcome fun _ _ h => pushBytes_mode h
  | outPop => exact execOutPop_keepsMode
  | ckData8 data => exact keepsMode_next fun s => ckPushByte_mode (lane data 0) s
  | ckData32 data =>
    exact keepsMode_next fun s => ckPushBytes_mode [lane data 0, lane data 1, lane data 2, lane data 3] s
  | reservedAccess op => exact execReservedAccess_keepsMode op
  | wrFrameCfg data | wrFixedLen data | wrLenField data | wrMaxLen data | wrSyncWindow data | wrHdrBytes0 data
  | wrHdrBytes1 data | wrCkCfg data | wrCkRange data | wrCkStoreAt data | wrCrcPoly data | wrCrcInit data
  | wrCrcXorout data => exact keepsMode_next (writeCl_mode _ data)
  | wrXsBounds0 data | wrXsStep0 data | wrXsRela0 data | wrXsRelb0 data | wrXsBounds1 data | wrXsStep1 data
  | wrXsRela1 data | wrXsRelb1 data | wrXsBounds2 data | wrXsStep2 data | wrXsRela2 data | wrXsRelb2 data
  | wrXsBounds3 data | wrXsStep3 data | wrXsRela3 data | wrXsRelb3 data => exact keepsMode_next (writeXs_mode _ data)
  | _ => exact keepsMode_next fun _ => rfl

theorem opcode_of_encode_decodeCmd {data : Word} {opcode : BitVec 4} {ign : BitVec 28}
    (h : encode (decodeCmd data) = .cmd (cmdWord opcode ign)) : data.extractLsb' 0 4 = opcode := by
  obtain ⟨-, hencode⟩ := encode_decodeCmd data
  obtain rfl : data = cmdWord opcode ign := Encoded.cmd.inj (hencode.symm.trans h)
  exact cmdWord_opcode opcode ign

theorem opcode_of_modeCommand {data : Word} (h : ModeCommand (decodeCmd data)) :
    data.extractLsb' 0 4 = 0x1 ∨ data.extractLsb' 0 4 = 0x2 ∨ data.extractLsb' 0 4 = 0xF := by
  obtain ⟨ign, h | h | h⟩ := h
  · exact .inl (opcode_of_encode_decodeCmd (congrArg encode h))
  · exact .inr (.inl (opcode_of_encode_decodeCmd (congrArg encode h)))
  · exact .inr (.inr (opcode_of_encode_decodeCmd (congrArg encode h)))

/-- An instruction that changes MODE is one of the commands, or a CMD write whose word decodes to one. -/
theorem modeCommand_of_mode_ne {i : Instr} {s t : State} (hexec : exec i s = .next t) (hmode : t.mode ≠ s.mode) :
    ModeCommand i ∨ ∃ data, i = .cmdWrite data ∧ ModeCommand (decodeCmd data) := by
  by_contra hnot
  push Not at hnot
  obtain ⟨hi, hdata⟩ := hnot
  refine hmode ?_
  by_cases hcmd : ∃ data, i = .cmdWrite data
  · obtain ⟨data, rfl⟩ := hcmd
    rw [exec_cmdWrite_eq] at hexec
    exact exec_keepsMode _ (hdata data rfl) (decodeCmd_ne_cmdWrite data) s t hexec
  · exact exec_keepsMode i hi (fun data h => hcmd ⟨data, h⟩) s t hexec

/-- Settles O56: the instructions that change MODE are known, and ARM's checks decide where it leads. -/
theorem modeTransitions : Obligations.ModeTransitions := by
  intro i s t hexec
  refine ⟨fun hmode => ?changes, fun ign hi hm => ⟨fun hpasses => ?passes, fun k hfails => ?fails⟩,
    fun ign hi harmed => ?armed, fun ign hi => ?idle⟩
  case changes =>
    refine (modeCommand_of_mode_ne hexec hmode).imp_right ?_
    rintro ⟨data, hi, hdecode⟩
    exact ⟨data, hi, opcode_of_modeCommand hdecode⟩
  case passes =>
    subst hi
    cases hexec.symm.trans (execArm_of_no_error hm ((armError_eq_none_iff _ _).2 hpasses) ign)
    rfl
  case fails =>
    subst hi
    rcases execArm_cases (ign := ign) hexec with ⟨harmed, -⟩ | ⟨-, e, -, rfl⟩ | ⟨-, hnone, -⟩
    · exact absurd harmed hm
    · rfl
    · exact absurd hfails ((armError_eq_none_iff _ _).1 hnone k)
  case armed =>
    subst hi
    cases hexec.symm.trans (execArm_of_armed harmed ign)
    exact harmed
  case idle =>
    rcases hi with rfl | rfl <;> cases hexec <;> rfl

end Sys2Proof.Proofs
end

section
/-! PROOFS. Family 44_bus_operations.md: the step on an access (R229), CMD_WRITE (R233), the register reads (R230) and
writes (R231), the reserved accesses (R232) and the interrupt acknowledge (R239). -/

namespace Sys2Proof.Proofs

open Sys2Proof Sys2Proof.Machine

/-! ## The step -/

theorem aligned_of_decodeBus {op : BusOp} {i : Instr} (hdecode : decodeBus op = .ok i) : op.aligned = true := by
  unfold decodeBus at hdecode
  split at hdecode
  · assumption
  · cases hdecode

/-- An operation that decodes is one the bus accepts, at the access that issues it. -/
theorem decodeAccess_toAccess {op : BusOp} {i : Instr} (hdecode : decodeBus op = .ok i) :
    decodeAccess op.toAccess = .ok i := by
  simp only [decodeAccess, Laws.toBusOp_toAccess op (aligned_of_decodeBus hdecode), hdecode]

theorem decodeBus_of_encode {i : Instr} {op : BusOp} (hwf : i.wellFormed = true) (hencode : encode i = .bus op) :
    decodeBus op = .ok i := by
  have hround := decodeEncodeRoundTrip i hwf
  rwa [hencode] at hround

theorem wellFormed_of_encode_cmd {i : Instr} {data : Word} (hencode : encode i = .cmd data) : i.wellFormed = true := by
  cases i with
  | reservedAccess op => cases hencode
  | _ => rfl

theorem decodeCmd_of_encode {i : Instr} {data : Word} (hencode : encode i = .cmd data) : decodeCmd data = i := by
  have hround := decodeEncodeRoundTrip i (wellFormed_of_encode_cmd hencode)
  rw [hencode] at hround
  exact Except.ok.inj hround

/-- Settles O5: an encoded operation decodes to its instruction (O1), and a command's word runs by way of CMD_WRITE. -/
theorem stepRunsDecodedAccess : Obligations.StepRunsDecodedAccess := by
  refine fun s rest i => ⟨fun a hhost hdecode => step_of_decodeAccess_ok hhost hdecode,
    fun op hwf hencode hhost => ?bus, fun data hencode hhost => ?cmd⟩
  case bus => exact step_of_decodeAccess_ok hhost (decodeAccess_toAccess (decodeBus_of_encode hwf hencode))
  case cmd =>
    have hdecode : decodeBus (.write 0x010 data) = .ok (.cmdWrite data) := decodeBus_of_writeRow rfl rfl
    rw [step_of_decodeAccess_ok hhost (decodeAccess_toAccess hdecode), exec_cmdWrite_eq, decodeCmd_of_encode hencode]
    rfl

/-- Settles O7, by the step's first case. -/
theorem noAutonomousStep : Obligations.NoAutonomousStep := by
  intro s hhost
  simp only [step, hhost]

/-! ## CMD_WRITE -/

/-- No command reads its ignored field (30_encoding.md R86). -/
theorem execCmdWrite_of_opcode_eq {data data' : Word} (hopcode : data'.extractLsb' 0 4 = data.extractLsb' 0 4)
    (s : State) : execCmdWrite data' s = execCmdWrite data s := by
  unfold execCmdWrite
  rw [hopcode]
  generalize (data.extractLsb' 0 4).toNat = opcode
  match opcode with
  | 0 | 1 | 2 | 3 | 4 | 5 | 6 | 7 | 8 | 9 | 10 | 11 | 12 | 13 | 14 => rfl
  | _ + 15 => rfl

/-- Settles O6: the word decodes to the command whose encoding it is. -/
theorem commandWriteRunsSelectedCommand : Obligations.CommandWriteRunsSelectedCommand := by
  refine fun data s => ⟨fun i hencode => ?_, fun data' hopcode => execCmdWrite_of_opcode_eq hopcode s⟩
  rw [exec_cmdWrite_eq, decodeCmd_of_encode hencode]

/-! ## Register reads -/

/-- A level fits its 16-bit field. -/
theorem levelWord_of_lt {n : Nat} (hn : n < 65536) : levelWord n = BitVec.ofNat 32 n := by
  apply BitVec.eq_of_toNat_eq
  rw [levelWord, BitVec.toNat_setWidth, BitVec.toNat_ofNat, BitVec.toNat_ofNat]
  omega

/-- No buffer outgrows its 16-bit level register, because no build's capacities do (00_scope.md R9). -/
theorem levels_lt {s : State} (h : Inv s) :
    s.out.length < 65536 ∧ s.pend.length < 65536 ∧ s.span.length < 65536 := by
  obtain ⟨⟨-, hbuf⟩, ⟨-, hout⟩, ⟨-, hspan⟩, -⟩ := h.hwLegal
  have houtFits := h.outFits
  have hspanFits := h.spanFits
  refine ⟨by omega, ?_, by omega⟩
  obtain ⟨harmed, hunarmed⟩ := pendIsBounded s h
  by_cases hm : s.mode = .armed
  · have hpend := (harmed hm).2
    omega
  · simp [hunarmed hm]

/-- Settles O13: the three levels fit their registers, and every other read returns the field itself. -/
theorem stateRegisterReads : Obligations.StateRegisterReads := by
  intro s h p hp
  obtain ⟨hout, hpend, hspan⟩ := levels_lt h
  have hlevel : ∀ n, n < 65536 → Host.Outcome.next (readReturns (levelWord n) s) =
      (.next { s with readData := some (BitVec.ofNat 32 n) } : Host.Outcome State Fault Refusal) := fun n hn => by
    rw [levelWord_of_lt hn]
    rfl
  fin_cases hp
  exacts [rfl, rfl, rfl, hlevel _ hout, hlevel _ hpend, hlevel _ hspan, rfl, rfl, rfl, rfl, rfl, rfl]

/-- The bits of a register outside its fields are 0 (10_state.md R21). -/
theorem get_and_not_mask {s : State} (h : Inv s) (r : ClReg) : s.cfg.get r &&& ~~~r.mask = 0 := by
  rw [← h.masked r, BitVec.and_assoc, BitVec.and_not_self]
  exact BitVec.and_zero

/-- Settles O14, register by register. -/
theorem configRegisterReads : Obligations.ConfigRegisterReads := by
  intro s h p hp
  have hundefined := get_and_not_mask h
  fin_cases hp
  exacts [⟨rfl, hundefined .frameCfg⟩, ⟨rfl, hundefined .fixedLen⟩, ⟨rfl, hundefined .lenField⟩,
    ⟨rfl, hundefined .maxLen⟩, ⟨rfl, hundefined .syncWindow⟩, ⟨rfl, hundefined .hdrBytes0⟩,
    ⟨rfl, hundefined .hdrBytes1⟩, ⟨rfl, hundefined .ckCfg⟩, ⟨rfl, hundefined .ckRange⟩,
    ⟨rfl, hundefined .ckStoreAt⟩, ⟨rfl, hundefined .crcPoly⟩, ⟨rfl, hundefined .crcInit⟩,
    ⟨rfl, hundefined .crcXorout⟩]

/-! ## What a decoded access is -/

theorem decodeBus_read_cases {off : BitVec 12} {i : Instr} (hdecode : decodeBus (.read off) = .ok i) :
    readRows.lookup off = some i ∨ (readRows.lookup off = none ∧ i = .reservedAccess (.read off)) := by
  rw [decodeBus, if_pos (aligned_of_decodeBus hdecode)] at hdecode
  obtain rfl := Except.ok.inj hdecode
  cases hrow : readRows.lookup off with
  | some j => exact .inl rfl
  | none => exact .inr ⟨rfl, rfl⟩

theorem decodeBus_write_cases {off : BitVec 12} {data : Word} {i : Instr}
    (hdecode : decodeBus (.write off data) = .ok i) :
    (∃ row, writeRows.lookup off = some row ∧ i = row data) ∨
    (writeRows.lookup off = none ∧ i = .reservedAccess (.write off data)) := by
  have haligned := aligned_of_decodeBus hdecode
  have hbits : off.extractLsb' 0 2 = 0#2 := (aligned_iff _).1 haligned
  cases hrow : writeRows.lookup off with
  | some row =>
    rw [decodeBus_of_writeRow hbits hrow] at hdecode
    exact .inl ⟨row, rfl, (Except.ok.inj hdecode).symm⟩
  | none =>
    rw [decodeBus_of_unmatched haligned ((unmatched_write_iff _ _).2 hrow)] at hdecode
    exact .inr ⟨rfl, (Except.ok.inj hdecode).symm⟩

/-! ## Accesses at the offsets of the slice table -/

/-- The rows at offsets of the slice table read the slice register of the offset (10_state.md R20, R42). -/
theorem readRow_at_slice : ∀ p ∈ readRows, ∀ r, xsRegAt p.1 = some r → ∀ s, exec p.2 s = .next (readXs r s) := by
  intro p hp
  unfold readRows at hp
  fin_cases hp <;> rintro r ⟨⟩ s <;> rfl

theorem writeRow_at_slice (data : Word) :
    ∀ p ∈ writeRows, ∀ r, xsRegAt p.1 = some r → ∀ s, exec (p.2 data) s = .next (writeXs r data s) := by
  intro p hp
  unfold writeRows at hp
  fin_cases hp <;> rintro r ⟨⟩ s <;> rfl

/-- A read at an offset of the slice table reads the slice register, by a row or as a RESERVED_ACCESS (log entry 13). -/
theorem exec_read_at_slice {off : BitVec 12} {r : ClReg} {i : Instr} (hreg : xsRegAt off = some r)
    (hdecode : decodeBus (.read off) = .ok i) (s : State) : exec i s = .next (readXs r s) := by
  rcases decodeBus_read_cases hdecode with hrow | ⟨-, rfl⟩
  · exact readRow_at_slice _ (mem_of_lookup_eq_some hrow) r hreg s
  · simp only [exec, execReservedAccess, hreg]

theorem exec_write_at_slice {off : BitVec 12} {data : Word} {r : ClReg} {i : Instr} (hreg : xsRegAt off = some r)
    (hdecode : decodeBus (.write off data) = .ok i) (s : State) : exec i s = .next (writeXs r data s) := by
  rcases decodeBus_write_cases hdecode with ⟨row, hrow, rfl⟩ | ⟨-, rfl⟩
  · exact writeRow_at_slice data _ (mem_of_lookup_eq_some hrow) r hreg s
  · simp only [exec, execReservedAccess, hreg]

/-- The slice of an offset is its distance from 0x080 in units of 16 bytes (10_state.md R20). -/
theorem xsRegAt_slice {off : BitVec 12} {r : ClReg} (hreg : xsRegAt off = some r) :
    0x080 ≤ off.toNat ∧ r.slice?.map Fin.val = some ((off.toNat - 0x080) / 16) := by
  unfold xsRegAt at hreg
  extract_lets n i at hreg
  split at hreg
  · rename_i hn
    have hi : i.val = (n - 0x080) / 16 := Nat.mod_eq_of_lt (by omega)
    refine ⟨hn.1, ?_⟩
    split at hreg <;> cases hreg <;> exact congrArg some hi
  · cases hreg

/-- Beyond the slices of the build the slice table has no registers (44_bus_operations.md R232). -/
theorem absent_of_beyond_slices {hw : HwParams} {off : BitVec 12} {r : ClReg}
    (hoff : ¬(0x080 ≤ off.toNat ∧ off.toNat < 0x080 + 16 * hw.nSlices)) (hreg : xsRegAt off = some r) :
    r.present hw = false := by
  obtain ⟨hle, hslice⟩ := xsRegAt_slice hreg
  rw [present_of_slice hslice, decide_eq_false_iff_not]
  omega

theorem readXs_of_absent {r : ClReg} {s : State} (habsent : r.present s.hw = false) : readXs r s = readReturns 0 s := by
  simp [readXs, habsent]

theorem writeXs_of_absent {r : ClReg} {s : State} (habsent : r.present s.hw = false) (data : Word) :
    writeXs r data s = s := by
  simp [writeXs, habsent]

/-! ## Reserved accesses -/

section
variable {s : State} {off : BitVec 12} (hoff : ¬(0x080 ≤ off.toNat ∧ off.toNat < 0x080 + 16 * s.hw.nSlices))
include hoff

theorem exec_reservedRead : exec (.reservedAccess (.read off)) s = .next (readReturns 0 s) := by
  simp only [exec, execReservedAccess]
  cases hreg : xsRegAt off with
  | none => rfl
  | some r => exact congrArg Host.Outcome.next (readXs_of_absent (absent_of_beyond_slices hoff hreg))

theorem exec_reservedWrite (data : Word) : exec (.reservedAccess (.write off data)) s = .next s := by
  simp only [exec, execReservedAccess]
  cases hreg : xsRegAt off with
  | none => rfl
  | some r => exact congrArg Host.Outcome.next (writeXs_of_absent (absent_of_beyond_slices hoff hreg) data)

/-- A read at an offset of no register is at one of an absent slice or has no row. -/
theorem exec_read_reserved {i : Instr} (hrows : xsRegAt off = none → readRows.lookup off = none)
    (hdecode : decodeBus (.read off) = .ok i) : exec i s = .next (readReturns 0 s) := by
  cases hreg : xsRegAt off with
  | some r => rw [exec_read_at_slice hreg hdecode, readXs_of_absent (absent_of_beyond_slices hoff hreg)]
  | none =>
    rcases decodeBus_read_cases hdecode with hrow | ⟨-, rfl⟩
    · simp [hrows hreg] at hrow
    · exact exec_reservedRead hoff

theorem exec_write_reserved {data : Word} {i : Instr} (hrows : xsRegAt off = none → writeRows.lookup off = none)
    (hdecode : decodeBus (.write off data) = .ok i) : exec i s = .next s := by
  cases hreg : xsRegAt off with
  | some r => rw [exec_write_at_slice hreg hdecode, writeXs_of_absent (absent_of_beyond_slices hoff hreg)]
  | none =>
    rcases decodeBus_write_cases hdecode with ⟨row, hrow, -⟩ | ⟨-, rfl⟩
    · simp [hrows hreg] at hrow
    · exact exec_reservedWrite hoff data

end

/-- Where each row is at a named offset or at one of the slice table, any other offset has no row. -/
theorem lookup_eq_none_of_not_named {α : Type} {rows : List (BitVec 12 × α)} {named : List (BitVec 12)}
    {off : BitVec 12} (hnamed : off ∉ named) (hrows : ∀ p ∈ rows, xsRegAt p.1 = none → p.1 ∈ named)
    (hreg : xsRegAt off = none) : rows.lookup off = none := by
  refine (lookup_eq_none_iff_not_mem_keys rows off).2 fun hmem => ?_
  obtain ⟨p, hp, rfl⟩ := List.mem_map.1 hmem
  exact hnamed (hrows p hp hreg)

/-- Settles O18: outside the slice table the rows are those of the named registers. -/
theorem reservedAccessesHaveNoEffect : Obligations.ReservedAccessesHaveNoEffect := by
  intro s off data i _ hoff
  exact ⟨fun hnamed => exec_read_reserved hoff (lookup_eq_none_of_not_named hnamed (by decide)),
    fun hnamed => exec_write_reserved hoff (lookup_eq_none_of_not_named hnamed (by decide)),
    exec_reservedRead hoff, exec_reservedWrite hoff data⟩

/-! ## Register writes -/

/-- The instruction is the write of a register that the build has, with the given defined bits. -/
structure WritesPresent (i : Instr) (data : Word) (r : ClReg) (mask : Word) (s : State) : Prop where
  mask : r.mask = mask
  present : r.present s.hw = true
  runs : exec i s = .next (writeXs r data s)

section
variable {i : Instr} {data mask : Word} {r : ClReg} {s : State} (h : WritesPresent i data r mask s)
include h

theorem WritesPresent.exec_eq_writeCl : exec i s = .next (writeCl r data s) := by
  rw [h.runs, writeXs, if_pos h.present]

theorem WritesPresent.locked (harmed : s.mode = .armed) :
    exec i s = .next { s with lastOpErr := 5, irqStatus := s.irqStatus ||| 0x20 } := by
  rw [h.exec_eq_writeCl, writeCl, if_pos harmed]
  rfl

theorem WritesPresent.stored (hm : s.mode ≠ .armed) :
    ∃ c : ClRegs, exec i s = .next { s with cfg := c } ∧
      ∀ r' : ClReg, c.get r' = if r' = r then data &&& mask else s.cfg.get r' := by
  rw [h.exec_eq_writeCl, writeCl, if_neg hm, h.mask]
  exact ⟨_, rfl, fun r' => ClRegs.get_set _ _ _ _⟩

end

/-- The write at a slice's offset, whether it has a row or not (log entry 13). -/
theorem writesPresent_of_slice {s : State} {data : Word} {i : Instr} {n : Fin 8} (hn : n.val < s.hw.nSlices) :
    ∀ p ∈ ([
      (0x080, .xsBounds n, 0xFFFFFFFF), (0x084, .xsStep n, 0x00000FFF), (0x088, .xsRelA n, 0xFFFFFFFF),
      (0x08C, .xsRelB n, 0xFFFFFFFF)] : List (Nat × ClReg × Word)),
    decodeBus (.write (BitVec.ofNat 12 (p.1 + 16 * n.val)) data) = .ok i → WritesPresent i data p.2.1 p.2.2 s := by
  intro p hp hdecode
  have hreg : xsRegAt (BitVec.ofNat 12 (p.1 + 16 * n.val)) = some p.2.1 := by
    clear hn hdecode
    fin_cases hp <;> revert n <;> decide
  have hslice : p.2.1.mask = p.2.2 ∧ p.2.1.slice? = some n := by fin_cases hp <;> exact ⟨rfl, rfl⟩
  exact ⟨hslice.1, by simpa [ClReg.present, hslice.2] using hn, exec_write_at_slice hreg hdecode s⟩

/-- Settles O16: every row, by name or at a slice's offset, is the write of a register the build has. -/
theorem registerWritesMaskAndLock : Obligations.RegisterWritesMaskAndLock := by
  refine fun s data => ⟨⟨_, rfl, rfl, bne_iff_ne⟩, fun i r m hrow => ?_⟩
  have hwrites : WritesPresent i data r m s := by
    rcases hrow with hnamed | ⟨n, hn, p, hp, hdecode, hpair⟩
    · generalize hrow : (i, r, m) = row at hnamed
      fin_cases hnamed <;> cases hrow <;> exact ⟨rfl, rfl, rfl⟩
    · have hslice := writesPresent_of_slice hn p hp hdecode
      rwa [hpair] at hslice
  exact ⟨hwrites.locked, hwrites.stored⟩

/-! ## The interrupt acknowledge -/

theorem ne_zero_iff_getLsbD {w : Nat} (x : BitVec w) : x ≠ 0 ↔ ∃ k, k < w ∧ x.getLsbD k = true := by
  constructor
  · intro hx
    by_contra hnone
    push Not at hnone
    exact hx (BitVec.eq_of_getLsbD_eq fun k hk => by simpa using hnone k hk)
  · rintro ⟨k, -, hk⟩ rfl
    simp at hk

/-- The interrupt output, bit by bit (60_exceptions.md R275). -/
theorem irq_eq_true_iff (s : State) :
    irq s = true ↔ ∃ k, k < 7 ∧ s.irqStatus.getLsbD k = true ∧ s.irqEnable.getLsbD k = true := by
  rw [irq, bne_iff_ne, ne_zero_iff_getLsbD]
  simp only [BitVec.getLsbD_and, Bool.and_eq_true]

theorem ackIrq_getLsbD (data : Word) (s : State) {k : Nat} (hk : k < 7) :
    (ackIrq (data.setWidth 7) s).irqStatus.getLsbD k = (s.irqStatus.getLsbD k && !data.getLsbD k) := by
  simp [hk]

/-- Settles O19, bit by bit. -/
theorem interruptAcknowledgeClearsWrittenBits : Obligations.InterruptAcknowledgeClearsWrittenBits := by
  intro s data
  refine ⟨ackIrq (data.setWidth 7) s, rfl, rfl, fun k hk => ackIrq_getLsbD data s hk, ?_⟩
  rw [irq_eq_true_iff]
  refine exists_congr fun k => and_congr_right fun hk => ?_
  rw [ackIrq_getLsbD data s hk, Bool.and_eq_true, Bool.not_eq_true', and_assoc]
  rfl

end Sys2Proof.Proofs
end

section
/-! PROOFS. Family 44_bus_operations.md: the data ports (R234, R235, R240), the output port (R236) and the checksum port
(R237, R238). -/

namespace Sys2Proof.Proofs

open Sys2Proof Sys2Proof.Machine

/-! ## Errors raised again -/

/-- The same error raised twice shows once (60_exceptions.md R269). -/
theorem raiseOpErr_twice (e : OpError) (s : State) : raiseOpErr e (raiseOpErr e s) = raiseOpErr e s := by
  simp [raiseOpErr, setIrq, BitVec.or_assoc]

/-! ## DATA8 -/

theorem pushByte_of_not_armed {s : State} (hm : s.mode ≠ .armed) (b : Byte) :
    pushByte b s = .ok (raiseOpErr .pushNotArmed s) := if_neg hm

/-- Settles O39: `Run()` returns on the appended byte, where the relation leads. -/
theorem pushRunsSynchronizer : Obligations.PushRunsSynchronizer := by
  intro s data
  rw [exec_data8]
  constructor
  · intro hm
    rw [pushByte_of_not_armed hm]
    rfl
  · intro harmed h
    obtain ⟨t, hpush, -, -, -, hto⟩ :=
      pushByte_returns harmed (configFacts h harmed) (h.resting harmed) (data.setWidth 8)
    exact ⟨t, hto, toOutcome_eq_next.2 hpush⟩

/-! ## DATA32 -/

theorem lane_shiftRight (data : Word) (k : Nat) : lane (data >>> (8 * k)) 0 = lane data k := by
  ext i hi
  simp [lane]

theorem exec_data8_of_lane (data : Word) (k : Nat) (s : State) :
    exec (.data8 (data >>> (8 * k))) s = toOutcome (pushByte (lane data k) s) :=
  congrArg (fun b => toOutcome (pushByte b s)) (lane_shiftRight data k)

theorem pushBytes_of_not_armed {s : State} (hm : s.mode ≠ .armed) (b : Byte) (bytes : List Byte) :
    pushBytes (b :: bytes) s = .ok (raiseOpErr .pushNotArmed s) := by
  rw [pushBytes, pushByte_of_not_armed hm]
  induction bytes with
  | nil => rfl
  | cons b' bytes ih =>
    simp only [pushBytes, pushByte_of_not_armed (s := raiseOpErr .pushNotArmed s) hm, raiseOpErr_twice]
    exact ih

theorem pushByte_completes {s : State} (h : Inv s) (b : Byte) : ∃ t, pushByte b s = .ok t ∧ Inv t := by
  by_cases harmed : s.mode = .armed
  · obtain ⟨t, hpush, -⟩ := pushByte_returns harmed (configFacts h harmed) (h.resting harmed) b
    exact ⟨t, hpush, inv_pushByte h hpush⟩
  · exact ⟨_, pushByte_of_not_armed harmed b, inv_raiseOpErr h .pushNotArmed⟩

/-- Settles O45: each push completes and keeps the invariant, and DATA32 is the four in sequence. -/
theorem data32IsFourPushes : Obligations.Data32IsFourPushes := by
  refine fun s data => ⟨fun hm => congrArg toOutcome (pushBytes_of_not_armed hm _ _), fun h => ?_⟩
  obtain ⟨t1, hpush1, h1⟩ := pushByte_completes h (lane data 0)
  obtain ⟨t2, hpush2, h2⟩ := pushByte_completes h1 (lane data 1)
  obtain ⟨t3, hpush3, h3⟩ := pushByte_completes h2 (lane data 2)
  obtain ⟨t4, hpush4, -⟩ := pushByte_completes h3 (lane data 3)
  have hall : pushBytes [lane data 0, lane data 1, lane data 2, lane data 3] s = .ok t4 := by
    simp only [pushBytes, hpush1, hpush2, hpush3, hpush4]
  exact ⟨t1, t2, t3, t4, toOutcome_eq_next.2 hpush1, (exec_data8_of_lane data 1 t1).trans (toOutcome_eq_next.2 hpush2),
    (exec_data8_of_lane data 2 t2).trans (toOutcome_eq_next.2 hpush3),
    (exec_data8_of_lane data 3 t3).trans (toOutcome_eq_next.2 hpush4), toOutcome_eq_next.2 hall⟩

/-! ## What pushes and FLUSH leave of Out -/

theorem emit_out_prefix (ws : List Word) (s : State) : s.out <+: (emit ws s).out := by
  rcases emit_cases ws s with ⟨-, h⟩ | ⟨-, h⟩ <;> rw [h]
  exact List.prefix_append _ _

/-- `Run()` only appends to Out (10_state.md R52). -/
theorem runsTo_out_prefix {s t : State} (h : RunsTo s t) : s.out <+: t.out := by
  induction h with
  | seekKeep | seekGuard | lengthNeed | bodyNeed => exact List.prefix_rfl
  | seekFound _ _ _ _ _ _ _ ih => exact ih
  | lengthOk _ _ _ _ _ _ ih => exact ih
  | lengthInvalid _ _ _ _ _ _ _ ih => exact (emit_out_prefix _ _).trans ih
  | bodyEmit _ _ _ _ _ _ _ _ ih => exact (emit_out_prefix _ _).trans ih
  | bodyMismatch _ _ _ _ _ _ _ _ ih => exact (emit_out_prefix _ _).trans ih

theorem flushesTo_out_prefix {s t : State} (h : FlushesTo s t) : s.out <+: t.out := by
  induction h with
  | done => exact List.prefix_rfl
  | truncate s _ _ _ hrun _ ih =>
    have hemit := emit_out_prefix (truncatedRecord s.pend.length) s
    have hrest := runsTo_out_prefix hrun
    exact (hemit.trans hrest).trans ih

theorem flushRemainder_out (s : State) : (flushRemainder s).out = s.out := by
  rcases flushRemainder_cases s with ⟨-, h⟩ | ⟨-, h⟩ <;> rw [h]

/-- What a push or FLUSH of an armed block may change. -/
structure PortFrame (s t : State) : Prop where
  frame : SyncFrame s t
  outGrows : s.out <+: t.out
  irqGrows : s.irqStatus &&& t.irqStatus = s.irqStatus

theorem PortFrame.refl (s : State) : PortFrame s s := ⟨rfl, List.prefix_rfl, BitVec.and_self⟩

theorem PortFrame.trans {s t u : State} (h1 : PortFrame s t) (h2 : PortFrame t u) : PortFrame s u := by
  refine ⟨?_, h1.outGrows.trans h2.outGrows, irq_grows_trans h1.irqGrows h2.irqGrows⟩
  have hst := h1.frame
  have htu := h2.frame
  unfold SyncFrame at *
  rw [htu, hst]

theorem pushByte_portFrame {s t : State} (h : Inv s) (harmed : s.mode = .armed) {b : Byte}
    (hpush : pushByte b s = .ok t) : PortFrame s t := by
  obtain ⟨u, hu, -, hstep, -, hto⟩ := pushByte_returns harmed (configFacts h harmed) (h.resting harmed) b
  obtain rfl : u = t := Except.ok.inj (hu.symm.trans hpush)
  have hout : (appended [b] s).out <+: u.out := runsTo_out_prefix hto
  exact ⟨hstep.frame, hout, hstep.irqGrows⟩

theorem pushBytes_completes {s : State} (h : Inv s) (harmed : s.mode = .armed) (bytes : List Byte) :
    ∃ t, pushBytes bytes s = .ok t ∧ Inv t ∧ PortFrame s t := by
  induction bytes generalizing s with
  | nil => exact ⟨s, rfl, h, .refl s⟩
  | cons b bytes ih =>
    obtain ⟨u, hpush, hu⟩ := pushByte_completes h b
    obtain ⟨t, hrest, ht, hframe⟩ := ih hu ((pushByte_mode hpush).trans harmed)
    exact ⟨t, pushBytes_cons.2 ⟨u, hpush, hrest⟩, ht, (pushByte_portFrame h harmed hpush).trans hframe⟩

theorem flush_completes {s : State} (h : Inv s) (harmed : s.mode = .armed) :
    ∃ t, flush s = .ok t ∧ Inv t ∧ PortFrame s t := by
  obtain ⟨u, hflush, -, hstep, hto⟩ := flush_returns (configFacts h harmed) (h.resting harmed)
  refine ⟨flushRemainder u, hflush, inv_flush h harmed hflush, hstep.frame, ?_, hstep.irqGrows⟩
  rw [flushRemainder_out]
  exact flushesTo_out_prefix hto

/-- Settles O47: DATA8 and DATA32 are pushes, and what they and FLUSH do to the block is a frame with the invariant. -/
theorem pushAndFlushFrame : Obligations.PushAndFlushFrame := by
  intro s data ign h harmed i hi
  have hcompletes : ∃ t, exec i s = .next t ∧ Inv t ∧ PortFrame s t := by
    fin_cases hi
    · obtain ⟨t, hpush, ht⟩ := pushBytes_completes h harmed [lane data 0]
      exact ⟨t, toOutcome_eq_next.2 ((pushBytes_singleton _ s).symm.trans hpush), ht⟩
    · obtain ⟨t, hpush, ht⟩ := pushBytes_completes h harmed [lane data 0, lane data 1, lane data 2, lane data 3]
      exact ⟨t, toOutcome_eq_next.2 hpush, ht⟩
    · obtain ⟨t, hflush, ht⟩ := flush_completes h harmed
      exact ⟨t, whenArmed_of_ok harmed hflush, ht⟩
  obtain ⟨t, hexec, ht, hframe⟩ := hcompletes
  have hhw : t.hw = s.hw := by rw [hframe.frame]
  exact ⟨t, hexec, hframe.frame, hframe.outGrows, hhw ▸ ht.outFits, hframe.irqGrows⟩

/-! ## OUT_POP -/

/-- Settles O49, by the oldest word of Out. -/
theorem outPopReturnsOldestWord : Obligations.OutPopReturnsOldestWord := by
  refine fun s => ⟨fun hempty => ?_, fun v rest hout => ?_⟩
  · have hexec : exec .outPop s = .next (readReturns 0 (raiseOpErr .outEmpty s)) := by
      simp only [exec, execOutPop, hempty]
    exact hexec
  · simp only [exec, execOutPop, hout]
    rfl

/-! ## CK_DATA8 -/

section
variable {s : State}

theorem ckPushByte_of_not_armed (hm : s.mode ≠ .armed) (b : Byte) : ckPushByte b s = raiseOpErr .pushNotArmed s :=
  if_pos hm

theorem ckPushByte_of_full (harmed : s.mode = .armed) (hfull : s.span.length = s.hw.ckSpanDepth) (b : Byte) :
    ckPushByte b s = raiseOpErr .ckSpanFull { s with ckOvf := true } := by
  rw [ckPushByte, if_neg (not_not.2 harmed), if_pos hfull]

theorem ckPushByte_of_room (harmed : s.mode = .armed) (hroom : s.span.length < s.hw.ckSpanDepth) (b : Byte) :
    ckPushByte b s = { s with span := s.span ++ [b] } := by
  rw [ckPushByte, if_neg (not_not.2 harmed), if_neg hroom.ne]

end

theorem exec_ckData8 (data : Word) (s : State) : exec (.ckData8 data) s = .next (ckPushByte (data.setWidth 8) s) :=
  congrArg (fun b => Host.Outcome.next (ckPushByte b s)) (lane_zero data)

/-- Settles O50, by the mode and the room in Span. -/
theorem ckData8AppendsToSpan : Obligations.CkData8AppendsToSpan := by
  intro s data
  rw [exec_ckData8]
  exact ⟨fun hm => congrArg _ (ckPushByte_of_not_armed hm _),
    fun harmed hfull => congrArg _ (ckPushByte_of_full harmed hfull _),
    fun harmed hroom => congrArg _ (ckPushByte_of_room harmed hroom _)⟩

/-! ## CK_DATA32 -/

/-- Bytes pushed into Span one after the other. -/
abbrev ckPushBytes (bytes : List Byte) (s : State) : State := bytes.foldl (fun t b => ckPushByte b t) s

/-- Where the first byte leads to a state that no byte changes, so do all. -/
theorem ckPushBytes_of_absorbed {s u : State} (hfirst : ∀ b, ckPushByte b s = u) (hstays : ∀ b, ckPushByte b u = u)
    {bytes : List Byte} (hne : bytes ≠ []) : ckPushBytes bytes s = u := by
  cases bytes with
  | nil => exact absurd rfl hne
  | cons b bytes =>
    rw [ckPushBytes, List.foldl_cons, hfirst]
    exact List.foldl_fixed' hstays bytes

theorem ckPushBytes_of_not_armed {s : State} (hm : s.mode ≠ .armed) {bytes : List Byte} (hne : bytes ≠ []) :
    ckPushBytes bytes s = raiseOpErr .pushNotArmed s :=
  ckPushBytes_of_absorbed (ckPushByte_of_not_armed hm)
    (fun b => (ckPushByte_of_not_armed (s := raiseOpErr .pushNotArmed s) hm b).trans (raiseOpErr_twice _ s)) hne

theorem ckPushBytes_of_full {s : State} (harmed : s.mode = .armed) (hfull : s.span.length = s.hw.ckSpanDepth)
    {bytes : List Byte} (hne : bytes ≠ []) :
    ckPushBytes bytes s = raiseOpErr .ckSpanFull { s with ckOvf := true } :=
  ckPushBytes_of_absorbed (ckPushByte_of_full harmed hfull)
    (fun b => (ckPushByte_of_full (s := raiseOpErr .ckSpanFull { s with ckOvf := true }) harmed hfull b).trans
      (raiseOpErr_twice _ { s with ckOvf := true })) hne

theorem ckPushBytes_of_room {s : State} (harmed : s.mode = .armed) {bytes : List Byte}
    (hroom : s.span.length + bytes.length ≤ s.hw.ckSpanDepth) :
    ckPushBytes bytes s = { s with span := s.span ++ bytes } := by
  induction bytes generalizing s with
  | nil => simp
  | cons b bytes ih =>
    rw [List.length_cons] at hroom
    calc ckPushBytes bytes (ckPushByte b s)
      _ = ckPushBytes bytes { s with span := s.span ++ [b] } := by rw [ckPushByte_of_room harmed (by omega)]
      _ = { s with span := s.span ++ [b] ++ bytes } := ih harmed (by simp; omega)
      _ = { s with span := s.span ++ b :: bytes } := by rw [List.append_assoc, List.singleton_append]

/-- The bytes that fit are stored, and the first that does not shows the error (60_exceptions.md R269). -/
theorem ckPushBytes_of_excess {s : State} (harmed : s.mode = .armed) {bytes : List Byte} {room : Nat}
    (hdepth : s.span.length + room = s.hw.ckSpanDepth) (hexcess : room < bytes.length) :
    ckPushBytes bytes s =
      raiseOpErr .ckSpanFull { s with span := s.span ++ bytes.take room, ckOvf := true } := by
  have htake : (bytes.take room).length = room := by simp; omega
  have hrest : bytes.drop room ≠ [] := by simpa using hexcess
  have hstored := ckPushBytes_of_room harmed (bytes := bytes.take room) (by omega)
  have hfull := ckPushBytes_of_full (s := { s with span := s.span ++ bytes.take room }) harmed
    (by rw [List.length_append, htake, hdepth]) hrest
  calc ckPushBytes bytes s
    _ = ckPushBytes (bytes.take room ++ bytes.drop room) s := by rw [List.take_append_drop]
    _ = ckPushBytes (bytes.drop room) (ckPushBytes (bytes.take room) s) := List.foldl_append
    _ = _ := by rw [hstored, hfull]

/-- Settles O51: CK_DATA32 pushes the four lanes, and the room in Span decides how many are stored. -/
theorem ckData32StoresLanesThatFit : Obligations.CkData32StoresLanesThatFit := by
  intro s data
  have hexec : exec (.ckData32 data) s =
      .next (ckPushBytes [lane data 0, lane data 1, lane data 2, lane data 3] s) := rfl
  rw [hexec]
  refine ⟨fun hm => congrArg _ (ckPushBytes_of_not_armed hm (by simp)), fun harmed hfits => congrArg _ ?_⟩
  split
  · exact ckPushBytes_of_room harmed ‹_›
  · rename_i hexcess
    exact ckPushBytes_of_excess harmed (Nat.add_sub_of_le hfits) (by simp; omega)

end Sys2Proof.Proofs
end

section
/-! PROOFS. Family 60_exceptions.md: the block never stops (R260), because the synchronizer returns and the engine is
called within its requirement wherever the invariant holds (42_frame_synchronizer.md R166, R172). -/

namespace Sys2Proof.Proofs

open Sys2Proof Sys2Proof.Machine

/-! ## Commands -/

/-- The outcome is a next state: neither a fault nor a refusal. -/
def Completes (o : Host.Outcome State Fault Refusal) : Prop := ∃ t, o = .next t

theorem completes_whenArmed {s : State} {run : State → Except Fault State}
    (hrun : s.mode = .armed → ∃ t, run s = .ok t) : Completes (toOutcome (whenArmed s run)) := by
  by_cases harmed : s.mode = .armed
  · obtain ⟨t, ht⟩ := hrun harmed
    exact ⟨t, whenArmed_of_ok harmed ht⟩
  · exact ⟨_, whenArmed_of_not_armed harmed run⟩

theorem completes_execArm (ign : BitVec 28) (s : State) : Completes (execArm ign s) := by
  by_cases harmed : s.mode = .armed
  · exact ⟨_, execArm_of_armed harmed ign⟩
  · cases herror : armError s.hw s.cfg with
    | none => exact ⟨_, execArm_of_no_error harmed herror ign⟩
    | some e => exact ⟨_, execArm_of_error harmed herror ign⟩

/-- Within a session TYPE names a family, so CK_COMPUTE has a value or reports the slices (43_commands.md R207). -/
theorem ckComputeSpan_completes {s : State} (h : Inv s) (harmed : s.mode = .armed) :
    ∃ t, ckComputeSpan s = .ok t := by
  obtain ⟨f, hfamily, -⟩ := (configFacts h harmed).family
  by_cases hillegal : f = .xor16 ∧ s.cfg.slicesLegal s.span.length = false
  · obtain ⟨rfl, hslices⟩ := hillegal
    exact ⟨_, ckComputeSpan_of_illegal hfamily hslices⟩
  · exact ⟨_, ckComputeSpan_of_legal hfamily fun hf => by simpa [hf] using hillegal⟩

/-- Within a session TYPE names a family, so CK_VERIFY has a verdict or reports the geometry (43_commands.md R208). -/
theorem ckVerifySpan_completes {s : State} (h : Inv s) (harmed : s.mode = .armed) :
    ∃ t, ckVerifySpan s = .ok t := by
  obtain ⟨f, hfamily, -⟩ := (configFacts h harmed).family
  cases hgeom : s.cfg.ckGeom s.span.length with
  | false => exact ⟨_, ckVerifySpan_of_misfit hgeom⟩
  | true => exact ⟨_, ckVerifySpan_of_ckGeom hfamily hgeom⟩

/-! ## Ports -/

/-- Bytes pushed in any mode: within a session each push keeps the invariant, outside one each is an error. -/
theorem pushBytes_returns {s : State} (h : Inv s) (bytes : List Byte) : ∃ t, pushBytes bytes s = .ok t := by
  induction bytes generalizing s with
  | nil => exact ⟨s, rfl⟩
  | cons b bytes ih =>
    obtain ⟨u, hpush, hu⟩ := pushByte_completes h b
    obtain ⟨t, hrest⟩ := ih hu
    exact ⟨t, pushBytes_cons.2 ⟨u, hpush, hrest⟩⟩

theorem completes_execOutPop (s : State) : Completes (execOutPop s) := by
  unfold execOutPop
  split <;> exact ⟨_, rfl⟩

/-! ## Every instruction -/

/-- Only the operations that call the synchronizer or the engine need the invariant. -/
theorem completes_sharedMeaning {m : State → Host.Outcome State Fault Refusal} (hmeaning : SharedMeaning m) {s : State}
    (h : Inv s) : Completes (m s) := by
  cases hmeaning with
  | arm ign => exact completes_execArm ign s
  | ckCompute ign => exact completes_whenArmed (ckComputeSpan_completes h)
  | ckVerify ign => exact completes_whenArmed (ckVerifySpan_completes h)
  | flush ign =>
    refine completes_whenArmed fun harmed => ?_
    obtain ⟨t, hflush, -⟩ := flush_completes h harmed
    exact ⟨t, hflush⟩
  | push bytes =>
    obtain ⟨t, hpush⟩ := pushBytes_returns h bytes
    exact ⟨t, toOutcome_eq_next.2 hpush⟩
  | outPop => exact completes_execOutPop s
  | nothing | reservedOpcode | read | write | enableIrq | ackIrq | disarm | softReset | ckInit | ckPush =>
    exact ⟨_, rfl⟩

theorem exec_completes {s : State} (h : Inv s) (i : Instr) : Completes (exec i s) :=
  completes_sharedMeaning (exec_sharedMeaning i) h

/-- Settles O54: an instruction completes by its shared operation, and the step by the event it takes. -/
theorem everyInstructionCompletes : Obligations.EveryInstructionCompletes := by
  refine fun s h => ⟨exec_completes h, ?_⟩
  cases hhost : s.host with
  | nil => exact .inl ⟨s, noAutonomousStep s hhost⟩
  | cons event rest =>
    cases event with
    | hwReset => exact .inl ⟨resetBlock (s.accepting rest), by simp only [step, hhost]⟩
    | access a =>
      cases hdecode : decodeAccess a with
      | error why => exact .inr ⟨a, rest, why, rfl, hdecode, step_of_decodeAccess_error hhost hdecode⟩
      | ok i =>
        rw [step_of_decodeAccess_ok hhost hdecode]
        exact .inl (exec_completes (inv_accepting h rest) i)

end Sys2Proof.Proofs
end

section
/-! PROOFS. Family 60_exceptions.md: the interrupt output (R275), and what clears a bit of IRQ_STATUS (R273): an event
only sets bits, so of all instructions only IRQ_W1C and SOFT_RESET do. -/

namespace Sys2Proof.Proofs

open Sys2Proof Sys2Proof.Machine

/-! ## The interrupt output -/

/-- Settles O20, bit by bit; at reset nothing is pending. -/
theorem interruptOutputIsEnabledAndPending : Obligations.InterruptOutputIsEnabledAndPending :=
  ⟨irq_eq_true_iff, resetValues_reset.quiet⟩

/-! ## Operations that keep what is pending -/

/-- No bit of IRQ_STATUS is cleared. -/
def PendingKept (s t : State) : Prop := s.irqStatus &&& t.irqStatus = s.irqStatus

theorem PendingKept.of_eq {s t : State} (h : t.irqStatus = s.irqStatus) : PendingKept s t := by
  rw [PendingKept, h, BitVec.and_self]

theorem PendingKept.trans {s t u : State} (h1 : PendingKept s t) (h2 : PendingKept t u) : PendingKept s u :=
  irq_grows_trans h1 h2

theorem PendingKept.getLsbD {s t : State} (h : PendingKept s t) {k : Nat} (hs : s.irqStatus.getLsbD k = true) :
    t.irqStatus.getLsbD k = true := by
  rw [← h, BitVec.getLsbD_and, Bool.and_eq_true] at hs
  exact hs.2

/-- An event sets its bit (60_exceptions.md R273). -/
theorem pendingKept_setIrq (e : IrqSource) (s : State) : PendingKept s (setIrq e s) := irq_grows_or _ _

theorem pendingKept_raiseOpErr (e : OpError) (s : State) : PendingKept s (raiseOpErr e s) :=
  pendingKept_setIrq .opErr s

theorem pendingKept_writeCl (r : ClReg) (data : Word) (s : State) : PendingKept s (writeCl r data s) := by
  rcases writeCl_cases r data s with ⟨-, h⟩ | ⟨-, h⟩ <;> rw [h]
  · exact pendingKept_raiseOpErr .cfgLocked s
  · exact .of_eq rfl

theorem pendingKept_writeXs (r : ClReg) (data : Word) (s : State) : PendingKept s (writeXs r data s) := by
  rcases writeXs_cases r data s with ⟨-, h⟩ | ⟨-, h⟩ <;> rw [h]
  · exact pendingKept_writeCl r data s
  · exact .of_eq rfl

theorem pendingKept_ckPushByte (b : Byte) (s : State) : PendingKept s (ckPushByte b s) := by
  rcases ckPushByte_cases b s with ⟨-, h⟩ | ⟨-, -, h⟩ | ⟨-, -, h⟩ <;> rw [h]
  · exact pendingKept_raiseOpErr .pushNotArmed s
  · exact pendingKept_raiseOpErr .ckSpanFull s
  · exact .of_eq rfl

theorem pendingKept_ckPushBytes (bytes : List Byte) (s : State) : PendingKept s (ckPushBytes bytes s) := by
  induction bytes generalizing s with
  | nil => exact .of_eq rfl
  | cons b bytes ih => exact (pendingKept_ckPushByte b s).trans (ih _)

theorem pendingKept_ckReported {s t : State} (h : CkReported s t) : PendingKept s t := by
  obtain ⟨valid, ok, result, stored, -, rfl⟩ := h
  exact pendingKept_setIrq .ckDone s

theorem pendingKept_pushByte {b : Byte} {s t : State} (h : pushByte b s = .ok t) : PendingKept s t := by
  unfold pushByte at h
  split at h
  · exact (runFuel_syncStep h).irqGrows
  · cases h
    exact pendingKept_raiseOpErr .pushNotArmed s

theorem pendingKept_pushBytes {bytes : List Byte} {s t : State} (h : pushBytes bytes s = .ok t) : PendingKept s t := by
  induction bytes generalizing s with
  | nil =>
    cases h
    exact .of_eq rfl
  | cons b bytes ih =>
    obtain ⟨u, hu, hrest⟩ := pushBytes_cons.1 h
    exact (pendingKept_pushByte hu).trans (ih hrest)

/-! ## Instructions that keep what is pending -/

/-- The meaning never clears a bit of IRQ_STATUS. -/
def KeepsPending (m : State → Host.Outcome State Fault Refusal) : Prop := ∀ s t, m s = .next t → PendingKept s t

theorem keepsPending_next {f : State → State} (h : ∀ s, PendingKept s (f s)) : KeepsPending fun s => .next (f s) := by
  intro s t hnext
  cases hnext
  exact h s

theorem keepsPending_toOutcome {f : State → Except Fault State} (h : ∀ s t, f s = .ok t → PendingKept s t) :
    KeepsPending fun s => toOutcome (f s) :=
  fun s t hnext => h s t (toOutcome_eq_next.1 hnext)

theorem keepsPending_whenArmed {f : State → Except Fault State} (h : ∀ s t, f s = .ok t → PendingKept s t) :
    KeepsPending fun s => toOutcome (whenArmed s f) := by
  refine keepsPending_toOutcome fun s t hok => ?_
  rcases whenArmed_cases hok with ⟨-, hrun⟩ | ⟨-, rfl⟩
  · exact h s t hrun
  · exact pendingKept_raiseOpErr .badMode s

theorem execArm_keepsPending (ign : BitVec 28) : KeepsPending (execArm ign) := by
  intro s t h
  rcases execArm_cases h with ⟨-, rfl⟩ | ⟨-, e, -, rfl⟩ | ⟨-, -, rfl⟩
  · exact pendingKept_raiseOpErr .badMode s
  · exact pendingKept_setIrq .cfgErr s
  · exact .of_eq rfl

theorem execCkInit_keepsPending (ign : BitVec 28) : KeepsPending (execCkInit ign) := by
  refine keepsPending_next fun s => ?_
  split
  · exact .of_eq rfl
  · exact pendingKept_raiseOpErr .badMode s

theorem execOutPop_keepsPending : KeepsPending execOutPop := by
  intro s t h
  rcases execOutPop_cases h with ⟨-, rfl⟩ | ⟨v, rest, -, rfl⟩
  · exact pendingKept_raiseOpErr .outEmpty s
  · exact .of_eq rfl

theorem execReservedAccess_keepsPending (op : BusOp) : KeepsPending (execReservedAccess op) := by
  cases op with
  | read off => exact keepsPending_next fun s => by split <;> exact .of_eq rfl
  | write off data =>
    refine keepsPending_next fun s => ?_
    split
    · exact pendingKept_writeXs _ data s
    · exact .of_eq rfl

/-! ## What clears a pending bit -/

/-- The two instructions that clear bits of IRQ_STATUS (60_exceptions.md R273). -/
def ClearsPending (i : Instr) : Prop := (∃ data, i = .irqW1c data) ∨ ∃ ign, i = .softReset ign

/-- The last case is NOP, DISARM, the reads and IRQ_ENABLE, which touch no bit of IRQ_STATUS. -/
theorem exec_keepsPending (i : Instr) (hi : ¬ClearsPending i) (hcmd : ∀ data, i ≠ .cmdWrite data) :
    KeepsPending (exec i) := by
  cases i with
  | irqW1c data => exact absurd (.inl ⟨data, rfl⟩) hi
  | softReset ign => exact absurd (.inr ⟨ign, rfl⟩) hi
  | cmdWrite data => exact absurd rfl (hcmd data)
  | arm ign => exact execArm_keepsPending ign
  | flush ign => exact keepsPending_whenArmed fun _ _ h => (flush_syncStep h).irqGrows
  | ckInit ign => exact execCkInit_keepsPending ign
  | ckCompute ign => exact keepsPending_whenArmed fun _ _ h => pendingKept_ckReported (ckComputeSpan_reported h)
  | ckVerify ign => exact keepsPending_whenArmed fun _ _ h => pendingKept_ckReported (ckVerifySpan_reported h)
  | reserved7 ign | reserved8 ign | reserved9 ign | reservedA ign | reservedB ign | reservedC ign | reservedD ign
  | reservedE ign => exact keepsPending_next (pendingKept_raiseOpErr .reservedOpcode)
  | data8 data => exact keepsPending_toOutcome fun _ _ h => pendingKept_pushByte h
  | data32 data => exact keepsPending_toOutcome fun _ _ h => pendingKept_pushBytes h
  | outPop => exact execOutPop_keepsPending
  | ckData8 data => exact keepsPending_next (pendingKept_ckPushByte (lane data 0))
  | ckData32 data =>
    exact keepsPending_next (pendingKept_ckPushBytes [lane data 0, lane data 1, lane data 2, lane data 3])
  | reservedAccess op => exact execReservedAccess_keepsPending op
  | wrFrameCfg data | wrFixedLen data | wrLenField data | wrMaxLen data | wrSyncWindow data | wrHdrBytes0 data
  | wrHdrBytes1 data | wrCkCfg data | wrCkRange data | wrCkStoreAt data | wrCrcPoly data | wrCrcInit data
  | wrCrcXorout data => exact keepsPending_next (pendingKept_writeCl _ data)
  | wrXsBounds0 data | wrXsStep0 data | wrXsRela0 data | wrXsRelb0 data | wrXsBounds1 data | wrXsStep1 data
  | wrXsRela1 data | wrXsRelb1 data | wrXsBounds2 data | wrXsStep2 data | wrXsRela2 data | wrXsRelb2 data
  | wrXsBounds3 data | wrXsStep3 data | wrXsRela3 data | wrXsRelb3 data =>
    exact keepsPending_next (pendingKept_writeXs _ data)
  | _ => exact keepsPending_next fun _ => .of_eq rfl

/-- Of the commands a CMD word selects, only SOFT_RESET clears a bit; its opcode is 0xF (30_encoding.md R82). -/
theorem opcode_of_clearsPending {data : Word} (h : ClearsPending (decodeCmd data)) : data.extractLsb' 0 4 = 0xF := by
  rcases h with ⟨data', hdecode⟩ | ⟨ign, hdecode⟩
  · have hencode := (encode_decodeCmd data).2
    rw [hdecode] at hencode
    cases hencode
  · exact opcode_of_encode_decodeCmd (congrArg encode hdecode)

/-- An instruction that clears a bit of IRQ_STATUS is one of the two, or a CMD write whose word decodes to one. -/
theorem clearsPending_of_not_kept {i : Instr} {s t : State} (hexec : exec i s = .next t) (hlost : ¬PendingKept s t) :
    ClearsPending i ∨ ∃ data, i = .cmdWrite data ∧ ClearsPending (decodeCmd data) := by
  by_contra hnot
  push Not at hnot
  obtain ⟨hi, hdata⟩ := hnot
  refine hlost ?_
  by_cases hcmd : ∃ data, i = .cmdWrite data
  · obtain ⟨data, rfl⟩ := hcmd
    rw [exec_cmdWrite_eq] at hexec
    exact exec_keepsPending _ (hdata data rfl) (decodeCmd_ne_cmdWrite data) s t hexec
  · exact exec_keepsPending i hi (fun data h => hcmd ⟨data, h⟩) s t hexec

/-- Settles O21: the instructions that clear a bit are known, and IRQ_W1C clears the bits written as 1 (O19). -/
theorem interruptBitsClearedOnlyByHost : Obligations.InterruptBitsClearedOnlyByHost := by
  intro i s t k hexec hpending hcleared
  have hlost : ¬PendingKept s t := fun hkept => by simp [hkept.getLsbD hpending] at hcleared
  rcases clearsPending_of_not_kept hexec hlost with (⟨data, rfl⟩ | hreset) | ⟨data, hi, hdecode⟩
  · cases hexec
    rw [ackIrq_getLsbD data s (BitVec.lt_of_getLsbD hpending), hpending] at hcleared
    exact .inl ⟨data, rfl, by simpa using hcleared⟩
  · exact .inr (.inl hreset)
  · exact .inr (.inr ⟨data, hi, opcode_of_clearsPending hdecode⟩)

end Sys2Proof.Proofs
end

section
/-! PROOFS. Family 70_reset_and_hazards.md: hardware reset is SOFT_RESET (R291), and with room for three words per byte
no record is lost (R300). Every record takes at most three words for each byte it takes from Pend, so the words in Out
and three times the bytes in Pend together never grow while nothing is pushed. -/

namespace Sys2Proof.Proofs

open Sys2Proof Sys2Proof.Machine

/-! ## Hardware reset -/

theorem step_of_hwReset {s : State} {rest : List HostEvent} (hhost : s.host = .hwReset :: rest) :
    step s = .next (resetBlock (s.accepting rest)) := by
  simp only [step, hhost]

/-- Settles O8: the step and SOFT_RESET are the same reset of the block. -/
theorem hardwareResetIsSoftReset : Obligations.HardwareResetIsSoftReset := by
  intro s rest ign hhost
  have hsoft : exec (.softReset ign) (s.accepting rest) = .next (resetBlock (s.accepting rest)) := rfl
  exact (step_of_hwReset hhost).trans hsoft.symm

/-! ## Room for three words per byte -/

/-- Out has three words free for each byte in Pend (70_reset_and_hazards.md R300). -/
def HasRoom (s : State) : Prop := s.out.length + 3 * s.pend.length ≤ s.hw.outDepth

/-- On the way from s to t no record was lost, and Out took at most three words for each byte that left Pend. -/
structure Lossless (s t : State) : Prop where
  hw : t.hw = s.hw
  dropped : t.cntDropped = s.cntDropped
  overflow : t.irqStatus.getLsbD 3 = s.irqStatus.getLsbD 3
  spends : t.out.length + 3 * t.pend.length ≤ s.out.length + 3 * s.pend.length

section
variable {s t u : State}

theorem Lossless.refl (s : State) : Lossless s s := ⟨rfl, rfl, rfl, le_rfl⟩

theorem Lossless.trans (h1 : Lossless s t) (h2 : Lossless t u) : Lossless s u :=
  ⟨h2.hw.trans h1.hw, h2.dropped.trans h1.dropped, h2.overflow.trans h1.overflow, h2.spends.trans h1.spends⟩

theorem Lossless.hasRoom (h : Lossless s t) (hroom : HasRoom s) : HasRoom t := by
  unfold HasRoom at hroom ⊢
  rw [h.hw]
  exact h.spends.trans hroom

theorem Lossless.append (h : Lossless s t) (bytes : List Byte) :
    Lossless (appended bytes s) (appended bytes t) := by
  refine ⟨h.hw, h.dropped, h.overflow, ?_⟩
  have hspends := h.spends
  simp only [List.length_append]
  omega

theorem appended_nil (s : State) : appended [] s = s := by
  simp only [appended, List.append_nil]

/-- The condition of 70_reset_and_hazards.md R300 on an access that appends `bytes` is room for what Pend then holds. -/
theorem hasRoom_appended (h : Inv s) {bytes : List Byte}
    (hfree : 3 * (s.pend.length + bytes.length) ≤ s.hw.outDepth - s.out.length) : HasRoom (appended bytes s) := by
  have hfits := h.outFits
  simp only [HasRoom, List.length_append]
  omega

/-! ## Records -/

theorem emit_of_hasRoom {ws : List Word} (hroom : HasRoom s) (hws : ws.length ≤ 3 * s.pend.length) :
    emit ws s = { s with out := s.out ++ ws } := by
  unfold HasRoom at hroom
  exact if_pos (by omega)

/-- A LEN_INVALID, MISMATCH or TRUNCATED record has at most three words, and RESYNC takes one byte
(42_frame_synchronizer.md R174). -/
theorem lossless_resync_emit {ws : List Word} (hroom : HasRoom s) (hpend : 1 ≤ s.pend.length) (hws : ws.length ≤ 3) :
    Lossless s (resync (emit ws s)) := by
  rw [emit_of_hasRoom hroom (by omega)]
  refine ⟨rfl, rfl, by simp, ?_⟩
  simp only [resync_out, resync_pend, List.length_append, List.length_drop]
  omega

/-- A FRAME record of L bytes has 1 + ⌈L/4⌉ words, no more than 3 L (30_encoding.md R93). -/
theorem lossless_emitFrame {len : Nat} (hroom : HasRoom s) (hpos : 1 ≤ len) (hlen : len ≤ s.pend.length) :
    Lossless s (emitFrame len s) := by
  have hrecord : (frameRecord (s.pend.take len)).length = 1 + (len + 3) / 4 := by
    rw [frameRecord_length, List.length_take_of_le hlen]
  have hemit := emit_of_hasRoom (ws := frameRecord (s.pend.take len)) hroom (by omega)
  refine ⟨emitFrame_hw len s, ?_, ?_, ?_⟩
  · rw [emitFrame_cntDropped, hemit]
  · simp [hemit]
  · simp only [emitFrame_out, hemit, emitFrame_pend, List.length_append, List.length_drop, hrecord]
    omega

/-! ## `Run()` -/

/-- With room `Run()` loses no record (42_frame_synchronizer.md R163, R181): each pass that reports finds a byte in
Pend, because a held candidate begins with a header. -/
theorem runsTo_lossless (h : RunsTo s t) (hrunning : Running s) (hroom : HasRoom s) : Lossless s t := by
  induction h with
  | seekKeep | lengthNeed | bodyNeed => exact .refl _
  | seekGuard s _ _ k =>
    refine ⟨rfl, rfl, by simp, ?_⟩
    simp only [List.length_drop]
    omega
  | seekFound s t p hfsm hmatch hleast _ ih =>
    have hskip : Lossless s { s with pend := s.pend.drop p, fsm := .lengthPending } :=
      ⟨rfl, rfl, rfl, by simp only [List.length_drop]; omega⟩
    have hnext := (pass_again hrunning (pass_of_leastMatch hfsm hmatch hleast)).1
    exact hskip.trans (ih hnext (hskip.hasRoom hroom))
  | lengthOk s t len hfsm hlen _ ih =>
    have hnext := (pass_again hrunning (pass_of_lengthOk hfsm hlen)).1
    have hresolve : Lossless s { s with candLen := len, fsm := .bodyPending } := ⟨rfl, rfl, rfl, le_rfl⟩
    exact hresolve.trans (ih hnext hroom)
  | lengthInvalid s t r raw hfsm _ _ ih =>
    have hreport : Lossless s (resync (emit (lenInvalidRecord r raw) s)) :=
      lossless_resync_emit hroom (hrunning.pend_pos (by simp [hfsm])) (by simp [lenInvalidRecord])
    exact hreport.trans (ih (hrunning.resync_emit _) (hreport.hasRoom hroom))
  | bodyEmit s t v hfsm hfull hverify hok _ ih =>
    have hcand : 1 ≤ s.candLen := hrunning.config.hdrPos.trans (hrunning.cand hfsm).1
    have hemit := lossless_emitFrame hroom hcand hfull
    have hpass : Machine.pass s = .again (emitFrame s.candLen s) := by
      rw [pass_of_complete hfsm hfull hverify, if_pos hok]
    exact hemit.trans (ih (pass_again hrunning hpass).1 (hemit.hasRoom hroom))
  | bodyMismatch s t v hfsm _ _ _ _ ih =>
    have hreport : Lossless s (resync (emit (mismatchRecord s.candLen v.computed v.stored) s)) :=
      lossless_resync_emit hroom (hrunning.pend_pos (by simp [hfsm])) le_rfl
    exact hreport.trans (ih (hrunning.resync_emit _) (hreport.hasRoom hroom))

theorem runsTo_running (h : RunsTo s t) (hrunning : Running s) : Running t := by
  obtain ⟨u, -, hu, -, -, hto⟩ := run_returns hrunning
  exact runHasOneResult s t u h hto ▸ hu

/-! ## Pushes -/

theorem pushByte_lossless {b : Byte} (h : Inv s) (harmed : s.mode = .armed) (hroom : HasRoom (appended [b] s))
    (hpush : pushByte b s = .ok t) : Lossless (appended [b] s) t := by
  obtain ⟨u, hu, -, -, -, hto⟩ := pushByte_returns harmed (configFacts h harmed) (h.resting harmed) b
  obtain rfl : u = t := Except.ok.inj (hu.symm.trans hpush)
  exact runsTo_lossless hto ((h.resting harmed).running_push (configFacts h harmed) [b]) hroom

/-- Room for all the bytes of an access is room for each push in turn: a push leaves the room of the bytes to come. -/
theorem pushBytes_lossless {bytes : List Byte} (h : Inv s) (harmed : s.mode = .armed)
    (hroom : HasRoom (appended bytes s)) (hpush : pushBytes bytes s = .ok t) : Lossless (appended bytes s) t := by
  induction bytes generalizing s with
  | nil =>
    cases hpush
    rw [appended_nil]
    exact .refl _
  | cons b bytes ih =>
    obtain ⟨u, hfirst, hrest⟩ := pushBytes_cons.1 hpush
    have hroomFirst : HasRoom (appended [b] s) := by
      simp only [HasRoom, List.length_append, List.length_cons, List.length_nil] at hroom ⊢
      omega
    have hsplit : appended (b :: bytes) s = appended bytes (appended [b] s) := by simp
    have hbefore : Lossless (appended (b :: bytes) s) (appended bytes u) :=
      hsplit ▸ (pushByte_lossless h harmed hroomFirst hfirst).append bytes
    have hafter := ih (inv_pushByte h hfirst) ((pushByte_mode hfirst).trans harmed) (hbefore.hasRoom hroom) hrest
    exact hbefore.trans hafter

/-! ## FLUSH -/

theorem flushesTo_lossless (h : FlushesTo s t) (hrunning : Running s) (hroom : HasRoom s) : Lossless s t := by
  induction h with
  | done => exact .refl _
  | truncate s t u hfsm hrun _ ih =>
    have hreport : Lossless s (resync (emit (truncatedRecord s.pend.length) s)) :=
      lossless_resync_emit hroom (hrunning.pend_pos hfsm) (by simp [truncatedRecord])
    have hnext := hrunning.resync_emit (truncatedRecord s.pend.length)
    have hscan := hreport.trans (runsTo_lossless hrun hnext (hreport.hasRoom hroom))
    exact hscan.trans (ih (runsTo_running hrun hnext) (hscan.hasRoom hroom))

theorem lossless_flushRemainder (s : State) : Lossless s (flushRemainder s) := by
  rcases flushRemainder_cases s with ⟨-, h⟩ | ⟨-, h⟩ <;> rw [h]
  · exact .refl s
  · exact ⟨rfl, rfl, by simp, by simp⟩

theorem flush_lossless (h : Inv s) (harmed : s.mode = .armed) (hroom : HasRoom s) (hflush : flush s = .ok t) :
    Lossless s t := by
  obtain ⟨u, hu, -, -, hto⟩ := flush_returns (configFacts h harmed) (h.resting harmed)
  obtain rfl : flushRemainder u = t := Except.ok.inj (hu.symm.trans hflush)
  have hloop := flushesTo_lossless hto ((h.resting harmed).running (configFacts h harmed)) hroom
  exact hloop.trans (lossless_flushRemainder u)

end

/-- Settles O59: the room of R300 is three words for each byte in Pend once the access's own bytes are there, and
neither the pushes nor FLUSH lose a record then. -/
theorem noRecordLostWithRoom : Obligations.NoRecordLostWithRoom := by
  intro s t data ign h harmed haccess
  have hpushes : ∀ bytes, pushBytes bytes s = .ok t →
      3 * (s.pend.length + bytes.length) ≤ s.hw.outDepth - s.out.length → Lossless (appended bytes s) t :=
    fun _ hpush hfree => pushBytes_lossless h harmed (hasRoom_appended h hfree) hpush
  rcases haccess with ⟨hexec, hfree⟩ | ⟨hexec, hfree⟩ | ⟨hexec, hfree⟩
  · have hpush := (pushBytes_singleton _ s).trans (toOutcome_eq_next.1 hexec)
    have hlossless := hpushes [lane data 0] hpush hfree
    exact ⟨hlossless.dropped, hlossless.overflow⟩
  · have hlossless := hpushes _ (toOutcome_eq_next.1 hexec) hfree
    exact ⟨hlossless.dropped, hlossless.overflow⟩
  · have hflush : flush s = .ok t := (if_pos harmed).symm.trans (toOutcome_eq_next.1 hexec)
    have hroom : HasRoom s := appended_nil s ▸ hasRoom_appended (bytes := []) h hfree
    have hlossless := flush_lossless h harmed hroom hflush
    exact ⟨hlossless.dropped, hlossless.overflow⟩

end Sys2Proof.Proofs
end
